-- ==== Sys2Proof/Word.lean ====
section
/-! DEFINITION. The plain data words of the DS-1264 model: bytes, item tags, samples, the index
types of the part's fixed record tables (spec/00_scope.md, Capacities and Naming conventions), and
`Table`, a fixed number of like records. -/

namespace Sys2Proof

/-- One byte of the host link or of the seat loop's control channel (Chapter 12). -/
abbrev Byte := BitVec 8

/-- An item tag, 0 to 255 (R24, R25). -/
abbrev Tag := BitVec 8

/-- One 16-bit signed PCM sample (Introduction, Units); its value is `BitVec.toInt`. -/
abbrev Sample := BitVec 16

/-- A programme P0 to P11. -/
abbrev Prog := Fin 12

/-- A fetch channel F0 to F12; F0 to F11 serve the programmes, F12 the bed. -/
abbrev Chan := Fin 13

/-- A group table slot. -/
abbrev GroupSlot := Fin 16

/-- A stop table index, 0 to 63. -/
abbrev StopIx := Fin 64

/-- A seat-loop node address, 0 to 15. -/
abbrev Node := Fin 16

/-- A headset jack J0 to J63. -/
abbrev Jack := Fin 64

/-- A lamp zone Z0 to Z7. -/
abbrev Zone := Fin 8

/-- A cue number, 0 to 31. -/
abbrev CueIx := Fin 32

/-- A set of programmes: bit n stands for Pn (R178). -/
abbrev ProgMask := BitVec 12

/-- A set of zones: bit n stands for Zn (R178). -/
abbrev ZoneMask := BitVec 8

/-- `n` records of one kind, indexed by `Fin n`. -/
structure Table (n : Nat) (α : Type) where
  cells : Vector α n
  deriving DecidableEq, Repr

/-- The record at an index. -/
def Table.read {n : Nat} {α : Type} (t : Table n α) (i : Fin n) : α := t.cells[i]

/-- The table with one record replaced. -/
def Table.write {n : Nat} {α : Type} (t : Table n α) (i : Fin n) (x : α) : Table n α :=
  ⟨t.cells.set i x⟩

/-- A table whose records are all equal. -/
def Table.fill {α : Type} (n : Nat) (x : α) : Table n α := ⟨Vector.replicate n x⟩

/-- The records in ascending order of index. -/
def Table.toList {n : Nat} {α : Type} (t : Table n α) : List α :=
  (List.finRange n).map t.read

end Sys2Proof
end

