-- ==== Sys2Proof/Syntax.lean ====
section
/-! DEFINITION. The commands of the DS-1264, one constructor of `Instr` per row of
spec/opcode_table.json: the host's requests (operands as their payload carries them, Chapter 12, each
with the tag its reply echoes) and the events on the part's lines, timers, store, seat loop and link
(operands are what the event brings with it). -/

namespace Sys2Proof

/-- The two poll slots of the seat loop controller (R137). -/
inductive PollSlot where
  | a
  | b
  deriving DecidableEq, Repr

/-- The two cue players of the lighting unit (R151). -/
inductive CuePlayer where
  | stop
  | scene
  deriving DecidableEq, Repr

/-- Which store read a completion belongs to: the one in flight, or one the read monitor has already
abandoned (R31, Caution). -/
inductive Delivery where
  | inFlight
  | abandoned
  deriving DecidableEq, Repr

/-- The payload fields of QUEUE_SEGMENT (R44, R178, 12.3). An absent field is `none`. -/
structure SegmentForm where
  id      : Nat
  prog    : Nat
  flags   : Nat
  main    : Nat
  short   : Option Nat
  trigger : Option Nat
  cancel  : Option Nat
  group   : Option Nat
  cue     : Option Nat
  deriving DecidableEq, Repr

/-- The payload fields of OPEN_GROUP (R62, 12.3). -/
structure GroupForm where
  id       : Nat
  cue      : Option Nat
  declared : Nat
  hold     : Nat
  trigger  : Nat
  cancel   : Option Nat
  deriving DecidableEq, Repr

/-- The payload fields of LOAD_STOP (R97, 12.3); `pairs` lists a programme and a clip each. -/
structure StopForm where
  index    : Nat
  id       : Nat
  flags    : Nat
  cue      : Option Nat
  announce : Nat
  arrival  : Nat
  chime    : Option Nat
  pairs    : List (Nat × Nat)
  deriving DecidableEq, Repr

/-- One step of DEFINE_CUE (R150, 12.3): zone mask, level, fade and hold in ms. -/
structure CueStepForm where
  mask  : Nat
  level : Nat
  fade  : Nat
  hold  : Nat
  deriving DecidableEq, Repr

/-- The commands. A request carries the tag of its frame first. -/
inductive Instr where
  -- the host's requests (Chapter 12, kind codes 0x01 to 0x56)
  | hello (tag : Byte)
  | getStatus (tag : Byte)
  | setup (tag : Byte) (pairs : List (Nat × Int))
  | getSetup (tag : Byte)
  | linkRate (tag : Byte) (code : Nat)
  | restart (tag : Byte)
  | setState (tag : Byte) (target : Nat)
  | position (tag : Byte) (d v a : Nat)
  | routeReset (tag : Byte) (start : Nat)
  | getRoute (tag : Byte)
  | defineClip (tag : Byte) (clip kind byte3 first count : Nat) (marks : List Nat)
  | deleteClip (tag : Byte) (clip : Nat)
  | getClip (tag : Byte) (clip : Nat)
  | storeResume (tag : Byte)
  | programmeSet (tag : Byte) (prog enabled language : Nat) (trim : Int) (bed : Nat)
  | getProgramme (tag : Byte) (prog : Nat)
  | queueSegment (tag : Byte) (form : SegmentForm)
  | cancelSegment (tag : Byte) (id : Nat)
  | openGroup (tag : Byte) (form : GroupForm)
  | closeGroup (tag : Byte) (id : Nat)
  | getGroup (tag : Byte) (id : Nat)
  | guideOn (tag : Byte) (mask : Nat)
  | guideOff (tag : Byte) (mask : Nat)
  | loadStop (tag : Byte) (form : StopForm)
  | clearStops (tag : Byte)
  | stopRequest (tag : Byte)
  | getStop (tag : Byte) (index : Nat)
  | bedStart (tag : Byte) (clip : Nat) (gain : Int)
  | bedStop (tag : Byte)
  | bedLevel (tag : Byte) (gain : Int)
  | speakerSet (tag : Byte) (feed source filter : Nat) (level : Int) (bed : Nat)
  | getMixer (tag : Byte)
  | nodeSet (tag : Byte) (node declared deck : Nat)
  | jackSet (tag : Byte) (jack prog volume : Nat)
  | getJack (tag : Byte) (jack : Nat)
  | zones (tag : Byte) (op mask level fade : Nat)
  | zoneSet (tag : Byte) (zone onLevel night : Nat)
  | defineCue (tag : Byte) (cue passes : Nat) (steps : List CueStepForm)
  | runCue (tag : Byte) (cue : Nat)
  | stopCue (tag : Byte) (player : Nat)
  | lightsClearFault (tag : Byte)
  | getZones (tag : Byte)
  -- resets, vehicle lines and the operating-state unit's timers
  | hardReset (gmic ign lampFault : Bool)
  | ignRisingEdge
  | ignFallingEdge
  | ignOffTimerExpiry
  | inactivityTimerExpiry
  | ampSettleTimerExpiry
  | doorOpeningEdge
  | stopReqActiveEdge
  | pttActiveEdge
  | pttInactiveEdge
  | pttTimerExpiry
  | gmicRisingEdge
  | gmicFallingEdge
  | lampFaultActiveEdge
  -- the route clock's periods and timers
  | extrapolationPeriod
  | staleTimerExpiry
  | reportAgeTick
  -- the clip store
  | storeGrant
  | readCompletion (of : Delivery) (samples : List Sample)
  | readMonitorExpiry
  -- block periods, the group table's and the level unit's timers
  | playerBlockPeriod (p : Prog)
  | mixerBlockPeriod (micGuide micDriver : List Sample)
  | holdTimerExpiry (slot : GroupSlot)
  | liftTimerExpiry
  -- the seat loop
  | pollSend
  | seatReply (bytes : List Byte)
  | responseTimerExpiry (slot : PollSlot)
  | roundTimerExpiry
  -- the lighting unit
  | fadeClockTick
  | stepTimerExpiry (player : CuePlayer)
  | lampSettleExpiry
  | offTimerExpiry
  | ambientSample (reading : Nat)
  -- the host link
  | byteArrival (byte : Byte)
  | receiverByte
  | gapTimerExpiry
  | requestHandover
  | frameSendBegin
  | frameSendEnd
  | lampFaultInactiveEdge
  deriving DecidableEq, Repr

end Sys2Proof
end

