-- ==== Sys2Proof/Machine/Records.lean ====
section
/-! DEFINITION. The records the chapters give each block of the part, the replies and notices of the
host link, and the enumerations they use. `State` (Machine/State.lean) gathers them. Distances are in
the unit the field's rule states; times and timers are in milliseconds unless a docstring says
otherwise. A timer is `none` while stopped and otherwise holds the time left. -/

namespace Sys2Proof.Machine

/-! ## Chapter 1, the route clock -/

/-- Route states (1.2). -/
inductive RouteState where
  | unset
  | tracking
  | stale
  deriving DecidableEq, Repr

/-- The route clock record (R1). -/
structure RouteClock where
  /-- Estimate E, mm. -/
  est : Nat
  /-- Remainder r, fifths of a millimetre. -/
  rem : Nat
  /-- Odometer O, mm. -/
  odo : Nat
  /-- Speed V of the last accepted report, cm/s. -/
  speed : Nat
  state : RouteState
  stale : Option Nat
  /-- Route start S, dm. -/
  start : Nat
  /-- Report age in 100 ms units, absent until a report is accepted. -/
  age : Option Nat
  deriving DecidableEq, Repr

/-- The outcome a POSITION's ACK reports (R4 to R7). -/
inductive ReportOutcome where
  | forward
  | jump
  | held
  deriving DecidableEq, Repr

/-! ## Chapter 2, clips, channels and the store interface -/

/-- Clip kinds (R18). -/
inductive ClipKind where
  | speech
  | chime
  | bed
  deriving DecidableEq, Repr

/-- A clip record (R18) without its number, which keys it in the directory, and without its in-use
count, which is the number of references held elsewhere (R22). -/
structure Clip where
  kind  : ClipKind
  first : Nat
  count : Nat
  marks : List Nat
  deriving DecidableEq, Repr

/-- The clip directory: clip number and record, clip numbers strictly rising. -/
abbrev Directory := List (Nat × Clip)

/-- A block of samples; an audio block holds 320 of them (Introduction, Units). -/
abbrev Block := List Sample

/-- A block in a channel FIFO (R24): its item tag, its offset within the clip, its samples. -/
structure FifoBlock where
  tag     : Tag
  offset  : Nat
  samples : Block
  deriving DecidableEq, Repr

/-- A staged reload set (R24, R27). -/
structure Reload where
  clip  : Nat
  start : Nat
  tag   : Tag
  deriving DecidableEq, Repr

/-- A store read in flight (R24, R30), with the store block being read. -/
structure Read where
  tag    : Tag
  clip   : Nat
  offset : Nat
  block  : Nat
  deriving DecidableEq, Repr

/-- Channel states (R24). -/
inductive ChannelState where
  | idle
  | run
  deriving DecidableEq, Repr

/-- A fetch channel (R24). -/
structure Channel where
  state     : ChannelState
  counter   : Tag
  current   : Option Tag
  clip      : Option Nat
  next      : Nat
  remaining : Nat
  staged    : Option Reload
  fifo      : List FifoBlock
  inFlight  : Option Read
  deriving DecidableEq, Repr

/-- Store states (R34). -/
inductive StoreState where
  | ready
  | failed
  deriving DecidableEq, Repr

/-- The store interface and its arbiter (R30, R33, R34). -/
structure Store where
  state   : StoreState
  /-- Consecutive-fault count, 0 to 3. -/
  faults  : Nat
  /-- The channel last granted. -/
  last    : Chan
  /-- The 5 ms read monitor. -/
  monitor : Option Nat
  deriving DecidableEq, Repr

/-! ## Chapters 3 and 5, programmes, items and stacks -/

/-- Segment states (R43). -/
inductive SegState where
  | queued
  | eligible
  | waiting
  | staged
  | active
  | suspended
  deriving DecidableEq, Repr

/-- Which of a segment's clips the fit test chose (R17). -/
inductive ClipChoice where
  | main
  | short
  deriving DecidableEq, Repr

/-- A segment record (R43). Its programme is the programme whose place holds it. -/
structure Segment where
  id      : Nat
  main    : Nat
  short   : Option Nat
  trigger : Option Nat
  cancel  : Option Nat
  group   : Option Nat
  fit     : Bool
  cue     : Option Nat
  arrival : Nat
  state   : SegState
  chosen  : Option ClipChoice
  /-- The clip held with a WAITING member for its priming (R67, R68). -/
  held    : Option ClipChoice
  resume  : Nat
  since   : Option Nat
  cueRun  : Bool
  deriving DecidableEq, Repr

/-- The two parts of a stop item (R52). -/
inductive StopPart where
  | chime
  | language
  deriving DecidableEq, Repr

/-- A stop item (R52): the stop's index, its clips, the part being played and its resume offset. -/
structure StopItem where
  stop   : StopIx
  chime  : Option Nat
  lang   : Option Nat
  part   : StopPart
  resume : Nat
  deriving DecidableEq, Repr

/-- The active item of a player (R42, R75). A clip item carries its tag and its position (R23); a stop
item in its CHIME part also carries the tag of its staged language part. -/
inductive Item where
  | segment (seg : Segment) (tag : Tag) (pos : Nat)
  | stop (item : StopItem) (tag : Tag) (langTag : Option Tag) (pos : Nat)
  | guide
  | driver
  deriving DecidableEq, Repr

/-- An entry of a preemption stack (R76, R79, R80). -/
inductive Entry where
  | segment (seg : Segment)
  | stop (item : StopItem)
  | guide
  deriving DecidableEq, Repr

/-- The staged slot's content: the segment and the tag its staging was issued (R54). -/
structure Staged where
  seg : Segment
  tag : Tag
  deriving DecidableEq, Repr

/-- Player states (R50). -/
inductive PlayerState where
  | idle
  | priming
  | playing
  | live
  deriving DecidableEq, Repr

/-- What a player produced as its speech for a block period (R50, R83). -/
inductive Speech where
  | silence
  | clip (block : Block)
  | guide
  | driver
  deriving DecidableEq, Repr

/-- A player's speech for its latest block period, with the state it produced it in and the level of
the item it came from (R75), as the mixer takes them (R115, R120, R123). -/
structure Voiced where
  speech : Speech
  state  : PlayerState
  level  : Int
  deriving DecidableEq, Repr

/-- A programme record (R39) with its player and places (R43, R50, R76). -/
structure Programme where
  enabled   : Bool
  language  : Nat
  trim      : Int
  bed       : Bool
  underruns : Nat
  player    : PlayerState
  active    : Option Item
  staged    : Option Staged
  /-- The preemption stack, top entry first. -/
  stack     : List Entry
  /-- The segment queue, head first. -/
  queue     : List Segment
  /-- The tag of the WAITING head the group table is priming on this player's channel (R68). -/
  priming   : Option Tag
  voiced    : Voiced
  deriving DecidableEq, Repr

/-- Reasons of SEGMENT_MISSED (R49). -/
inductive MissReason where
  | noFit
  | passed
  | cancelled
  | disabled
  | stale
  | store
  | routeReset
  | layover
  deriving DecidableEq, Repr

/-! ## Chapter 4, groups -/

/-- Group states (R61). -/
inductive GroupState where
  | forming
  | armed
  | released
  deriving DecidableEq, Repr

/-- Causes of a release (R70). -/
inductive ReleaseCause where
  | allReady
  | holdExpiry
  deriving DecidableEq, Repr

/-- Reasons of GROUP_ENDED (R73). -/
inductive EndReason where
  | passed
  | empty
  deriving DecidableEq, Repr

/-- A group record (R61). -/
structure Group where
  id       : Nat
  state    : GroupState
  declared : ProgMask
  enrolled : ProgMask
  ready    : ProgMask
  trigger  : Nat
  cancel   : Option Nat
  /-- Hold limit, 100 ms units. -/
  hold     : Nat
  timer    : Option Nat
  cue      : Option Nat
  started  : ProgMask
  detached : ProgMask
  /-- The order in which records became RELEASED. -/
  order    : Nat
  deriving DecidableEq, Repr

/-! ## Chapter 5, the preemption unit -/

/-- States of driver PA (R89). -/
inductive PaState where
  | off
  | on
  | stuck
  deriving DecidableEq, Repr

/-- The guide state (R84) and the driver's PA (R89). -/
structure Voice where
  /-- Mic sense: `true` is PRESENT, the level of the GMIC line. -/
  mic   : Bool
  guide : ProgMask
  pa    : PaState
  ptt   : Option Nat
  deriving DecidableEq, Repr

/-- The answer to a preemption request (R77). -/
inductive Taken where
  | started
  | inserted
  | refusedState
  | refusedNoStore
  | refusedDuplicate
  deriving DecidableEq, Repr

/-! ## Chapter 6, stops -/

/-- Stop states (R96). -/
inductive StopState where
  | pending
  | due
  | announcing
  | announced
  | arrived
  | passed
  | skipped
  deriving DecidableEq, Repr

/-- Skip reasons (R96). -/
inductive SkipReason where
  | late
  | store
  | layover
  deriving DecidableEq, Repr

/-- A stop record (R96); its index is its place in the table. -/
structure Stop where
  id          : Nat
  announce    : Nat
  arrival     : Nat
  requestOnly : Bool
  chime       : Option Nat
  clips       : List (Prog × Nat)
  cue         : Option Nat
  latch       : Bool
  state       : StopState
  skip        : Option SkipReason
  deriving DecidableEq, Repr

/-- The announcement record (R105): IDLE while `stop` is `none`. -/
structure Announcement where
  stop          : Option StopIx
  participating : ProgMask
  outstanding   : ProgMask
  heard         : ProgMask
  cut           : ProgMask
  deriving DecidableEq, Repr

/-- The announcement field of STOP_STATE (R113). -/
inductive AnnMark where
  | none
  | inProgress
  | ended
  | dropped
  deriving DecidableEq, Repr

/-- Whether a definition made a new record or replaced one (R20, R98, R150). -/
inductive Defined where
  | new
  | replaced
  deriving DecidableEq, Repr

/-! ## Chapter 7, the mixer and the level unit -/

/-- Bed states (R115). -/
inductive BedState where
  | off
  | priming
  | playing
  deriving DecidableEq, Repr

/-- Why the bed became OFF, where a notice says so (R119). -/
inductive BedReason where
  | store
  | layover
  deriving DecidableEq, Repr

/-- Feed filters (R122). -/
inductive Filter where
  | all
  | guideUp
  | announce
  deriving DecidableEq, Repr

/-- The two speaker feeds (R122). -/
inductive Feed where
  | upper
  | lower
  deriving DecidableEq, Repr

/-- The four settings of a speaker feed (R122). -/
structure FeedSettings where
  source : Prog
  filter : Filter
  level  : Int
  bed    : Bool
  deriving DecidableEq, Repr

/-- A jack's gain code (R127). -/
inductive GainCode where
  | mute
  | level (n : Nat)
  deriving DecidableEq, Repr

/-- The mixer and the level unit (R115), with the blocks last built for the programmes and last sent
to the speakers. -/
structure Mixer where
  bedState  : BedState
  bedClip   : Option Nat
  bedTag    : Option Tag
  /-- The block offset of the next bed block the mixer takes (R36, R118). -/
  bedPos    : Nat
  bedGain   : Int
  ducks     : Table 12 Nat
  upperDuck : Nat
  lowerDuck : Nat
  upper     : FeedSettings
  lower     : FeedSettings
  /-- Wind lift W, hdB. -/
  lift      : Nat
  /-- Lift target W_t, hdB. -/
  liftGoal  : Nat
  codes     : Table 64 GainCode
  /-- The output block built for each programme in the latest block period (R121). -/
  progOut   : Table 12 Block
  /-- The blocks sent to SPK_UPPER and SPK_LOWER in the latest block period (R124, R125). -/
  spkUpper  : Block
  spkLower  : Block
  deriving DecidableEq, Repr

/-! ## Chapter 8, the seat loop -/

/-- Decks (Introduction). -/
inductive Deck where
  | upper
  | lower
  deriving DecidableEq, Repr

/-- Node states (R131). -/
inductive NodeState where
  | online
  | offline
  deriving DecidableEq, Repr

/-- A node record (R131). -/
structure NodeRec where
  declared : Bool
  deck     : Deck
  state    : NodeState
  misses   : Nat
  deriving DecidableEq, Repr

/-- Jack states (R134). -/
inductive JackState where
  | unknown
  | absent
  | present
  | fault
  deriving DecidableEq, Repr

/-- What a seat box senses at a jack (R138). -/
inductive Sense where
  | opened
  | headset
  | short
  deriving DecidableEq, Repr

/-- The passenger's buttons (R138, R143). -/
inductive Button where
  | langNext
  | volUp
  | volDown
  deriving DecidableEq, Repr

/-- A pending jack update (R136): slot, gain code and the poll slot whose poll carries it. -/
structure Update where
  slot      : Prog
  code      : GainCode
  carriedBy : Option PollSlot
  deriving DecidableEq, Repr

/-- A jack record (R134). The jack's current gain code is the level unit's (R127). -/
structure JackRec where
  state     : JackState
  sense     : Option Sense
  language  : Prog
  volume    : Nat
  assigned  : Bool
  /-- The time at which the jack last became ABSENT, ms. -/
  absentAt  : Option Nat
  update    : Option Update
  confirmed : Option (Prog × GainCode)
  deriving DecidableEq, Repr

/-- An outstanding poll (R137): its slot, its node, its 4 ms response timer and the message sent
(12.5). `detached` marks a poll whose node was undeclared after it was sent (R132). -/
structure Poll where
  slot     : PollSlot
  node     : Node
  timer    : Nat
  detached : Bool
  message  : List Byte
  deriving DecidableEq, Repr

/-- Polls and rounds (R137). -/
structure Loop where
  /-- The outstanding polls, the one sent first at the head. -/
  polls      : List Poll
  /-- The round number, 0 to 7. -/
  round      : Nat
  /-- While a round is in progress, the lowest address it has still to consider. -/
  next       : Option Nat
  /-- In LAYOVER, whether the round timer expired while a round still had nodes to poll. -/
  due        : Bool
  roundTimer : Option Nat
  deriving DecidableEq, Repr

/-! ## Chapter 9, lighting -/

/-- A zone record (R146). -/
structure ZoneRec where
  base      : Nat
  onLevel   : Nat
  nightOnly : Bool
  owner     : Option CuePlayer
  overlay   : Option Nat
  target    : Nat
  fadeTime  : Nat
  fadeStart : Nat
  elapsed   : Nat
  output    : Nat
  deriving DecidableEq, Repr

/-- A step of a cue (R150). -/
structure CueStep where
  mask  : ZoneMask
  level : Nat
  fade  : Nat
  hold  : Nat
  deriving DecidableEq, Repr

/-- A cue (R150): its repeat count and its steps. -/
structure Cue where
  passes : Nat
  steps  : List CueStep
  deriving DecidableEq, Repr

/-- A RUNNING cue player (R151): the cue, the step it is at (1 is the first), the passes begun and the
step timer. -/
structure CueRun where
  cue   : CueIx
  step  : Nat
  pass  : Nat
  timer : Nat
  deriving DecidableEq, Repr

/-- Lamp supply states (R154). -/
inductive SupplyState where
  | off
  | settling
  | on
  | faulted
  deriving DecidableEq, Repr

/-- Day states (R156). -/
inductive DayState where
  | day
  | night
  deriving DecidableEq, Repr

/-- The cue players (`none` is IDLE), the lamp supply (R154), the LAMP_FAULT line's level (R155) and the
day state with its run count and latest ambient reading (R156, R158). -/
structure Lamps where
  stopRun  : Option CueRun
  sceneRun : Option CueRun
  supply   : SupplyState
  settle   : Option Nat
  off      : Option Nat
  faultLine : Bool
  day      : DayState
  run      : Nat
  ambient  : Nat
  deriving DecidableEq, Repr

/-! ## Chapter 10, the operating-state unit and the setup items -/

/-- Operating states (R159). -/
inductive OpState where
  | run
  | layover
  | dormant
  deriving DecidableEq, Repr

/-- Causes of a change of operating state (R159). -/
inductive OpCause where
  | ign
  | setState
  | inactivity
  | wake
  deriving DecidableEq, Repr

/-- The operating-state record (R159) and the level of the IGN line. -/
structure OpUnit where
  state      : OpState
  ign        : Bool
  ignOff     : Option Nat
  inactivity : Option Nat
  settle     : Option Nat
  ampEn      : Bool
  deriving DecidableEq, Repr

/-- The setup items in the order and the units of the table of 10.5. -/
structure Setup where
  jumpLimit     : Nat
  staleTime     : Nat
  storeBlocks   : Nat
  resumeLimit   : Nat
  passMargin    : Nat
  fallback      : Prog
  doorCue       : Option Nat
  duckDepth     : Nat
  liftSlope     : Nat
  liftMax       : Nat
  ceiling       : Int
  stepDefault   : Nat
  langUpper     : Prog
  langLower     : Prog
  releaseFade   : Nat
  lampSettle    : Nat
  dark          : Nat
  light         : Nat
  courtesyMask  : ZoneMask
  courtesyLevel : Nat
  deriving DecidableEq, Repr

/-- The timers that a coincident event loads again (R8, R162, R168). -/
inductive Reloaded where
  | stale
  | inactivity
  | gap
  deriving DecidableEq, Repr

/-! ## Chapter 11, the host link -/

/-- Refusal codes (R172, R179). -/
inductive RefuseCode where
  | badKind
  | badLength
  | range
  | state
  | full
  | duplicate
  | unknownId
  | inUse
  | notMember
  | noMic
  | noStore
  | order
  | passed
  | last
  deriving DecidableEq, Repr

/-- LINK_ERROR reasons (R169). -/
inductive LinkFault where
  | gap
  | check
  | length
  | overrun
  deriving DecidableEq, Repr

/-- The fields of STOP_STATE (R113). -/
structure StopNotice where
  index         : StopIx
  id            : Nat
  state         : StopState
  skip          : Option SkipReason
  latch         : Bool
  announcement  : AnnMark
  participating : Option ProgMask
  heard         : Option ProgMask
  cut           : Option ProgMask
  deriving DecidableEq, Repr

/-- The notices of 12.4 with the fields their rules give them. -/
inductive Notice where
  | routeState (state : RouteState) (odoDm : Nat)
  | jump (oldDm newDm : Nat)
  | storeFault (count : Nat) (state : StoreState) (chan : Chan) (block : Nat)
  | underrun (p : Prog) (count : Nat)
  | segmentStarted (id : Nat) (p : Prog) (clip : ClipChoice) (offset : Nat) (resumed : Bool)
  | segmentDone (id : Nat) (p : Prog)
  | segmentMissed (id : Nat) (p : Prog) (reason : MissReason) (state : SegState)
  | groupReleased (id : Nat) (cause : ReleaseCause) (declared started detached : ProgMask)
  | groupEnded (id : Nat) (reason : EndReason)
  | guideLost (mask : ProgMask)
  | paStuck
  | stopState (fields : StopNotice)
  | bedState (state : BedState) (clip : Option Nat) (reason : Option BedReason)
  | jackChange (jack : Jack) (state : JackState) (language : Prog) (volume : Nat) (code : GainCode)
  | nodeLost (node : Node)
  | nodeBack (node : Node)
  | lampFault
  | daylight (state : DayState)
  | opState (state : OpState) (cause : OpCause)
  | linkError (reason : LinkFault) (count : Nat) (frame : Option (Byte × Byte))
  deriving DecidableEq, Repr

/-- A stack entry as GET_PROGRAMME reports it (R42): kind and level, segment ID or stop index, resume
offset. -/
structure EntryView where
  level  : Int
  object : Option Nat
  resume : Nat
  deriving DecidableEq, Repr

/-- The active item as GET_PROGRAMME reports it (R42). -/
inductive ItemView where
  | none
  | segment (id : Nat) (clip : ClipChoice) (pos : Nat)
  | stop (index : StopIx) (part : StopPart) (pos : Nat)
  | guide
  | driver
  deriving DecidableEq, Repr

/-- The ACK data of GET_PROGRAMME (R42). -/
structure ProgrammeView where
  enabled   : Bool
  language  : Nat
  trim      : Int
  bed       : Bool
  underruns : Nat
  player    : PlayerState
  active    : ItemView
  staged    : Option Nat
  stack     : List EntryView
  queue     : List (Nat × SegState)
  deriving DecidableEq, Repr

/-- The ACK data of GET_ROUTE (R15). -/
structure RouteView where
  state   : RouteState
  odoDm   : Nat
  estDm   : Nat
  speed   : Nat
  inForce : Nat
  start   : Nat
  age     : Option Nat
  deriving DecidableEq, Repr

/-- The ACK data of GET_GROUP (R64); `left` is the time left on the hold timer in 100 ms units. -/
structure GroupView where
  id       : Nat
  state    : GroupState
  declared : ProgMask
  enrolled : ProgMask
  ready    : ProgMask
  trigger  : Nat
  cancel   : Option Nat
  hold     : Nat
  left     : Nat
  cue      : Option Nat
  members  : List (Prog × Nat × SegState)
  outcome  : Option (ProgMask × ProgMask)
  deriving DecidableEq, Repr

/-- The ACK data of GET_STOP (R100): the record, its pass point and, for the stop of the announcement
in progress, its four masks. -/
structure StopView where
  index  : StopIx
  record : Stop
  passDm : Nat
  masks  : Option (ProgMask × ProgMask × ProgMask × ProgMask)
  deriving DecidableEq, Repr

/-- A feed as GET_MIXER reports it (R129). -/
structure FeedView where
  settings : FeedSettings
  gain     : Int
  held     : Bool
  deriving DecidableEq, Repr

/-- The ACK data of GET_MIXER (R129). -/
structure MixerView where
  bedState  : BedState
  bedClip   : Option Nat
  bedGain   : Int
  ducks     : List Nat
  upperDuck : Nat
  lowerDuck : Nat
  upper     : FeedView
  lower     : FeedView
  lift      : Nat
  liftGoal  : Nat
  duckDepth : Nat
  liftSlope : Nat
  liftMax   : Nat
  ceiling   : Int
  deriving DecidableEq, Repr

/-- The ACK data of GET_JACK (R144): the jack record, its gain code and its node's record. -/
structure JackView where
  jack   : Jack
  record : JackRec
  code   : GainCode
  node   : NodeRec
  deriving DecidableEq, Repr

/-- A zone as GET_ZONES reports it (R158). -/
structure ZoneView where
  base      : Nat
  onLevel   : Nat
  nightOnly : Bool
  owner     : Option CuePlayer
  overlay   : Option Nat
  target    : Nat
  output    : Nat
  deriving DecidableEq, Repr

/-- The ACK data of GET_ZONES (R158). -/
structure ZonesView where
  zones     : List ZoneView
  stopRun   : Option CueRun
  sceneRun  : Option CueRun
  supply    : SupplyState
  faultLine : Bool
  day       : DayState
  run       : Nat
  ambient   : Nat
  deriving DecidableEq, Repr

/-- The ACK data of GET_STATUS (R176). -/
structure StatusView where
  op      : OpState
  route   : RouteState
  store   : StoreState
  faults  : Nat
  bed     : BedState
  pa      : PaState
  lost    : Bool
  notices : Nat
  gap     : Nat
  check   : Nat
  length  : Nat
  overrun : Nat
  deriving DecidableEq, Repr

/-- The ACK data of HELLO (R176), in the order of its table. -/
structure HelloView where
  part       : Nat
  revision   : Nat
  capacities : List Nat
  payload    : Nat
  rate       : Nat
  deriving DecidableEq, Repr

/-- The result data of an ACK, one constructor per shape the rules give. -/
inductive Ack where
  | empty
  | hello (view : HelloView)
  | status (view : StatusView)
  | applied (pairs : Nat)
  | setupValues (values : List Int)
  | rateBefore (code : Nat)
  | stateBefore (state : OpState)
  | stateChange (before after : OpState)
  | position (outcome : ReportOutcome) (clamped : Bool) (odoDm estDm : Nat)
  | route (view : RouteView)
  | defined (outcome : Defined)
  | clip (number : Nat) (record : Clip) (uses : Nat)
  | storeBefore (state : StoreState)
  | programme (view : ProgrammeView)
  | queued (state : Option SegState) (place : Option Nat)
  | cancelled (state : SegState)
  | opened (state : GroupState)
  | closed (state : GroupState) (enrolled : ProgMask)
  | group (view : GroupView)
  | guideOn (mask live : ProgMask)
  | guideOff (removed mask : ProgMask)
  | loaded (outcome : Defined) (state : StopState)
  | cleared (records : Nat)
  | requested (stop : Option (StopIx × Bool))
  | stop (view : StopView)
  | bedBefore (state : BedState)
  | gainBefore (gain : Int)
  | mixer (view : MixerView)
  | node (state : NodeState)
  | jackSet (state : JackState) (code : GainCode)
  | jack (view : JackView)
  | bases (levels : List Nat)
  | cueBefore (cue : Option CueIx)
  | supplyBefore (state : SupplyState)
  | zones (view : ZonesView)
  deriving DecidableEq, Repr

/-- The outcome of a request (R179): ACK with its data, or REFUSE with its code; a REFUSE of SETUP with
RANGE names the failing item. -/
inductive Answer where
  | ack (data : Ack)
  | refuse (code : RefuseCode)
  | refuseItem (item : Nat)
  deriving DecidableEq, Repr

/-- What the sending of a reply's last byte makes (R167, R175). -/
inductive AfterSend where
  | nothing
  | rateChange
  | restart
  deriving DecidableEq, Repr

/-- A reply: the kind and tag of its request and its outcome (R171, R179). -/
structure Reply where
  kind   : Byte
  tag    : Byte
  answer : Answer
  after  : AfterSend
  deriving DecidableEq, Repr

/-- A complete request frame (R170). -/
structure Frame where
  kind    : Byte
  tag     : Byte
  payload : List Byte
  deriving DecidableEq, Repr

/-- The frame on TXD (R173): a reply, or a notice with the lost flag it carries (R174). -/
inductive TxFrame where
  | reply (r : Reply)
  | notice (n : Notice) (lost : Bool)
  deriving DecidableEq, Repr

/-- A place of the receive FIFO: a byte or an overflow mark (R169). -/
inductive RxEntry where
  | byte (b : Byte)
  | mark
  deriving DecidableEq, Repr

/-- The receiver (R168): HUNT, or IN_FRAME with the bytes taken after the start byte and their running
sum. -/
inductive Receiver where
  | hunt
  | inFrame (got : List Byte) (sum : Byte)
  deriving DecidableEq, Repr

/-- The host link (Chapter 11). -/
structure Link where
  /-- The rate code in force, 0 to 3 (R167). -/
  rate        : Nat
  pendingRate : Option Nat
  receiver    : Receiver
  /-- The gap timer, in tenths of a microsecond (R167, R168). -/
  gap         : Option Nat
  rxFifo      : List RxEntry
  requests    : List Frame
  replies     : List Reply
  notices     : List Notice
  lost        : Bool
  tx          : Option TxFrame
  /-- Whether a RESTART is pending (R175). -/
  restarting  : Bool
  gapErrors     : Nat
  checkErrors   : Nat
  lengthErrors  : Nat
  overrunErrors : Nat
  deriving DecidableEq, Repr

end Sys2Proof.Machine
end

