-- ==== Sys2Proof/Config.lean ====
section
/-! DEFINITION. What the manual leaves open, as uninterpreted constants: nothing can be proved about the
values they give. Chapter 12 gives the layout of the headers, of the refusals and of the request
payloads, and how masks, clip numbers, distances and other fields are encoded; it gives no width or code
for some fields of the ACKs and notices. -/

namespace Sys2Proof.Config

/-- The bytes of the field at a place of an ACK's result data, where Chapter 12 lays that field out
nowhere (R178, R179). DESIGN CHOICE (assumption 18), safe: no value is chosen. -/
opaque ackField : Machine.Ack → Nat → List Byte

/-- The bytes of the field at a place of a notice, after its flags byte, where Chapter 12 lays that field
out nowhere (R178, R179). DESIGN CHOICE (assumption 18), safe: no value is chosen. -/
opaque noticeField : Machine.Notice → Nat → List Byte

/-- Whether the hold timer's expiry is taken before an advance that reaches its group's cancel at the same
moment: for a slot, at a time. R70 lets either be first. DESIGN CHOICE (assumption 29), safe: no order is
chosen. -/
opaque holdExpiryFirst : GroupSlot → Nat → Bool

end Sys2Proof.Config
end

