-- ==== Sys2Proof/WellFormed.lean ====
section
/-! DEFINITION. Which commands could reach the part at all: a request whose fields fit the bytes that
Chapter 12 gives them (an absent optional field being `none`, R178), and an event whose data has the
size the spec gives it. The range tests of the requests are not made here: the owning rules make them. -/

namespace Sys2Proof

/-- A value of one unsigned byte. -/
def fits1 (n : Nat) : Bool := decide (n < 2 ^ 8)

/-- A value of two unsigned bytes. -/
def fits2 (n : Nat) : Bool := decide (n < 2 ^ 16)

/-- A value of four unsigned bytes. -/
def fits4 (n : Nat) : Bool := decide (n < 2 ^ 32)

/-- A value of one two's complement byte. -/
def fitsS1 (x : Int) : Bool := decide (-2 ^ 7 ≤ x ∧ x < 2 ^ 7)

/-- A value of four two's complement bytes. -/
def fitsS4 (x : Int) : Bool := decide (-2 ^ 31 ≤ x ∧ x < 2 ^ 31)

/-- An optional clip number: 0xFFFF stands for absent (R178). -/
def fitsClip (o : Option Nat) : Bool := o.all fun n => decide (n < 0xFFFF)

/-- An optional distance: 0xFFFFFFFF stands for absent (R178). -/
def fitsDistance (o : Option Nat) : Bool := o.all fun n => decide (n < 0xFFFFFFFF)

/-- An optional light cue: 0xFF stands for absent (R178). -/
def fitsCue (o : Option Nat) : Bool := o.all fun n => decide (n < 0xFF)

/-- An optional group ID: 0 stands for absent (R178). -/
def fitsGroup (o : Option Nat) : Bool := o.all fun n => decide (0 < n ∧ n < 2 ^ 8)

/-- The fields of QUEUE_SEGMENT fit their bytes. -/
def SegmentForm.fits (q : SegmentForm) : Bool :=
  fits2 q.id && fits1 q.prog && fits1 q.flags && fits2 q.main && fitsClip q.short &&
    fitsDistance q.trigger && fitsDistance q.cancel && fitsGroup q.group && fitsCue q.cue

/-- The fields of OPEN_GROUP fit their bytes. -/
def GroupForm.fits (g : GroupForm) : Bool :=
  fits1 g.id && fitsCue g.cue && fits2 g.declared && fits2 g.hold && fits4 g.trigger &&
    fitsDistance g.cancel

/-- The fields of LOAD_STOP fit their bytes and the list has at most 12 pairs. -/
def StopForm.fits (f : StopForm) : Bool :=
  fits1 f.index && fits1 f.id && fits1 f.flags && fitsCue f.cue && fits4 f.announce &&
    fits4 f.arrival && fitsClip f.chime && decide (f.pairs.length ≤ 12) &&
    f.pairs.all fun c => fits1 c.1 && fits2 c.2

/-- The fields of a step of DEFINE_CUE fit their bytes. -/
def CueStepForm.fits (c : CueStepForm) : Bool :=
  fits1 c.mask && fits1 c.level && fits2 c.fade && fits2 c.hold

/-- A command that could reach the part. -/
def Instr.wellFormed : Instr → Bool
  | .hello _ => true
  | .getStatus _ => true
  | .setup _ pairs => decide (pairs.length ≤ 40) && pairs.all fun c => fits1 c.1 && fitsS4 c.2
  | .getSetup _ => true
  | .linkRate _ code => fits1 code
  | .restart _ => true
  | .setState _ target => fits1 target
  | .position _ d v a => fits4 d && fits2 v && fits2 a
  | .routeReset _ start => fits4 start
  | .getRoute _ => true
  | .defineClip _ clip kind byte3 first count marks =>
    fits2 clip && fits1 kind && fits1 byte3 && fits2 first && fits2 count &&
      decide (marks.length ≤ 8) && marks.all fits2
  | .deleteClip _ clip => fits2 clip
  | .getClip _ clip => fits2 clip
  | .storeResume _ => true
  | .programmeSet _ prog enabled language trim bed =>
    fits1 prog && fits1 enabled && fits1 language && fitsS1 trim && fits1 bed
  | .getProgramme _ prog => fits1 prog
  | .queueSegment _ form => form.fits
  | .cancelSegment _ id => fits2 id
  | .openGroup _ form => form.fits
  | .closeGroup _ id => fits1 id
  | .getGroup _ id => fits1 id
  | .guideOn _ mask => fits2 mask
  | .guideOff _ mask => fits2 mask
  | .loadStop _ form => form.fits
  | .clearStops _ => true
  | .stopRequest _ => true
  | .getStop _ index => fits1 index
  | .bedStart _ clip gain => fits2 clip && fitsS1 gain
  | .bedStop _ => true
  | .bedLevel _ gain => fitsS1 gain
  | .speakerSet _ feed source filter level bed =>
    fits1 feed && fits1 source && fits1 filter && fitsS1 level && fits1 bed
  | .getMixer _ => true
  | .nodeSet _ node declared deck => fits1 node && fits1 declared && fits1 deck
  | .jackSet _ jack prog volume => fits1 jack && fits1 prog && fits1 volume
  | .getJack _ jack => fits1 jack
  | .zones _ op mask level fade => fits1 op && fits1 mask && fits1 level && fits2 fade
  | .zoneSet _ zone onLevel night => fits1 zone && fits1 onLevel && fits1 night
  | .defineCue _ cue passes steps =>
    fits1 cue && fits1 passes && decide (steps.length ≤ 8) && steps.all CueStepForm.fits
  | .runCue _ cue => fits1 cue
  | .stopCue _ player => fits1 player
  | .lightsClearFault _ => true
  | .getZones _ => true
  | .hardReset _ _ _ => true
  | .ignRisingEdge => true
  | .ignFallingEdge => true
  | .ignOffTimerExpiry => true
  | .inactivityTimerExpiry => true
  | .ampSettleTimerExpiry => true
  | .doorOpeningEdge => true
  | .stopReqActiveEdge => true
  | .pttActiveEdge => true
  | .pttInactiveEdge => true
  | .pttTimerExpiry => true
  | .gmicRisingEdge => true
  | .gmicFallingEdge => true
  | .lampFaultActiveEdge => true
  | .extrapolationPeriod => true
  | .staleTimerExpiry => true
  | .reportAgeTick => true
  | .storeGrant => true
  | .readCompletion _ samples => decide (samples.length = 320)
  | .readMonitorExpiry => true
  | .playerBlockPeriod _ => true
  | .mixerBlockPeriod guide driver =>
    decide (guide.length = 320) && decide (driver.length = 320)
  | .holdTimerExpiry _ => true
  | .liftTimerExpiry => true
  | .pollSend => true
  | .seatReply _ => true
  | .responseTimerExpiry _ => true
  | .roundTimerExpiry => true
  | .fadeClockTick => true
  | .stepTimerExpiry _ => true
  | .lampSettleExpiry => true
  | .offTimerExpiry => true
  | .ambientSample reading => decide (reading ≤ 1023)
  | .byteArrival _ => true
  | .receiverByte => true
  | .gapTimerExpiry => true
  | .requestHandover => true
  | .frameSendBegin => true
  | .frameSendEnd => true
  | .lampFaultInactiveEdge => true

end Sys2Proof
end

