-- ==== Sys2Proof/Decode.lean ====
section
/-! DEFINITION. The host frame's payloads (Chapter 12): which request a complete frame spells, or the
link's refusal of it (R171), and the frame that spells a request. `decodeTableWord` stands beside them:
spec/opcode_table.json gives its rows no bits, so no word spells a command. -/

namespace Sys2Proof

open Machine (RefuseCode Frame)

/-- No row of spec/opcode_table.json has bits (98_reader.md, n_rows_with_fixed 0), so no word spells a
command. -/
def decodeTableWord (_nbits _w : Nat) : Option Instr := none

/-! ## Fields (R178) -/

/-- One byte of an unsigned field. -/
def byteOf (n : Nat) : Byte := BitVec.ofNat 8 n

/-- A two-byte field, least significant byte first. -/
def bytes2 (n : Nat) : List Byte := [byteOf n, byteOf (n / 2 ^ 8)]

/-- A four-byte field, least significant byte first. -/
def bytes4 (n : Nat) : List Byte :=
  [byteOf n, byteOf (n / 2 ^ 8), byteOf (n / 2 ^ 16), byteOf (n / 2 ^ 24)]

/-- A two's complement byte. -/
def bytesS1 (x : Int) : Byte := BitVec.ofInt 8 x

/-- A four-byte two's complement field. -/
def bytesS4 (x : Int) : List Byte := bytes4 (x % 2 ^ 32).toNat

/-- The value of a two-byte field. -/
def nat2 (b0 b1 : Byte) : Nat := b0.toNat + 2 ^ 8 * b1.toNat

/-- The value of a four-byte field. -/
def nat4 (b0 b1 b2 b3 : Byte) : Nat :=
  b0.toNat + 2 ^ 8 * b1.toNat + 2 ^ 16 * b2.toNat + 2 ^ 24 * b3.toNat

/-- The value of a four-byte two's complement field. -/
def int4 (b0 b1 b2 b3 : Byte) : Int :=
  if nat4 b0 b1 b2 b3 < 2 ^ 31 then (nat4 b0 b1 b2 b3 : Int) else (nat4 b0 b1 b2 b3 : Int) - 2 ^ 32

/-- A field that one reserved value marks absent. -/
def optional (reserved n : Nat) : Option Nat := if n = reserved then none else some n

/-- The value that stands for an optional field. -/
def ofOptional (reserved : Nat) (o : Option Nat) : Nat := o.getD reserved

/-! ## Lists that the payload length counts (R178) -/

/-- Sentence marks, two bytes each. -/
def decodeMarks : List Byte → Option (List Nat)
  | [] => some []
  | b0 :: b1 :: rest => (decodeMarks rest).map (nat2 b0 b1 :: ·)
  | _ => none

/-- SETUP pairs, an item number and a four-byte signed value each. -/
def decodePairs : List Byte → Option (List (Nat × Int))
  | [] => some []
  | i :: b0 :: b1 :: b2 :: b3 :: rest =>
    (decodePairs rest).map ((i.toNat, int4 b0 b1 b2 b3) :: ·)
  | _ => none

/-- LOAD_STOP pairs, a programme and a two-byte clip number each. -/
def decodeClips : List Byte → Option (List (Nat × Nat))
  | [] => some []
  | p :: c0 :: c1 :: rest => (decodeClips rest).map ((p.toNat, nat2 c0 c1) :: ·)
  | _ => none

/-- DEFINE_CUE steps, six bytes each. -/
def decodeSteps : List Byte → Option (List CueStepForm)
  | [] => some []
  | m :: l :: f0 :: f1 :: h0 :: h1 :: rest =>
    (decodeSteps rest).map
      ({ mask := m.toNat, level := l.toNat, fade := nat2 f0 f1, hold := nat2 h0 h1 } :: ·)
  | _ => none

/-- A list of at most `n` entries, or the refusal of the payload's length. -/
def atMost {α : Type} (n : Nat) (l : Option (List α)) : Option (List α) :=
  l.filter fun xs => decide (xs.length ≤ n)

/-! ## Kinds and lengths (12.4) -/

/-- The request kinds of 12.4. -/
def requestKinds : List Nat :=
  [0x01, 0x02, 0x03, 0x04, 0x05, 0x06, 0x07, 0x10, 0x11, 0x12, 0x18, 0x19, 0x1A, 0x1B,
   0x20, 0x21, 0x22, 0x23, 0x28, 0x29, 0x2A] ++
  [0x30, 0x31, 0x38, 0x39, 0x3A, 0x3B, 0x40, 0x41, 0x42, 0x43, 0x44, 0x48, 0x49, 0x4A,
   0x50, 0x51, 0x52, 0x53, 0x54, 0x55, 0x56]

/-- The request that a payload of a kind spells, where its length is one that 12.4 allows the kind. -/
def decodePayload (kind : Nat) (tag : Byte) (payload : List Byte) : Option Instr :=
  match kind, payload with
  | 0x01, [] => some (.hello tag)
  | 0x02, [] => some (.getStatus tag)
  | 0x03, bs => (atMost 40 (decodePairs bs)).map (.setup tag)
  | 0x04, [] => some (.getSetup tag)
  | 0x05, [c] => some (.linkRate tag c.toNat)
  | 0x06, [] => some (.restart tag)
  | 0x07, [t] => some (.setState tag t.toNat)
  | 0x10, [d0, d1, d2, d3, v0, v1, a0, a1] =>
    some (.position tag (nat4 d0 d1 d2 d3) (nat2 v0 v1) (nat2 a0 a1))
  | 0x11, [s0, s1, s2, s3] => some (.routeReset tag (nat4 s0 s1 s2 s3))
  | 0x12, [] => some (.getRoute tag)
  | 0x18, c0 :: c1 :: k :: z :: f0 :: f1 :: n0 :: n1 :: bs =>
    (atMost 8 (decodeMarks bs)).map
      (.defineClip tag (nat2 c0 c1) k.toNat z.toNat (nat2 f0 f1) (nat2 n0 n1))
  | 0x19, [c0, c1] => some (.deleteClip tag (nat2 c0 c1))
  | 0x1A, [c0, c1] => some (.getClip tag (nat2 c0 c1))
  | 0x1B, [] => some (.storeResume tag)
  | 0x20, [p, e, l, t, b] =>
    some (.programmeSet tag p.toNat e.toNat l.toNat t.toInt b.toNat)
  | 0x21, [p] => some (.getProgramme tag p.toNat)
  | 0x22, [i0, i1, p, f, m0, m1, s0, s1, t0, t1, t2, t3, c0, c1, c2, c3, g, q] =>
    some (.queueSegment tag
      { id := nat2 i0 i1, prog := p.toNat, flags := f.toNat, main := nat2 m0 m1,
        short := optional 0xFFFF (nat2 s0 s1),
        trigger := optional 0xFFFFFFFF (nat4 t0 t1 t2 t3),
        cancel := optional 0xFFFFFFFF (nat4 c0 c1 c2 c3),
        group := optional 0 g.toNat, cue := optional 0xFF q.toNat })
  | 0x23, [i0, i1] => some (.cancelSegment tag (nat2 i0 i1))
  | 0x28, [i, q, m0, m1, h0, h1, t0, t1, t2, t3, c0, c1, c2, c3] =>
    some (.openGroup tag
      { id := i.toNat, cue := optional 0xFF q.toNat, declared := nat2 m0 m1, hold := nat2 h0 h1,
        trigger := nat4 t0 t1 t2 t3, cancel := optional 0xFFFFFFFF (nat4 c0 c1 c2 c3) })
  | 0x29, [i] => some (.closeGroup tag i.toNat)
  | 0x2A, [i] => some (.getGroup tag i.toNat)
  | 0x30, [m0, m1] => some (.guideOn tag (nat2 m0 m1))
  | 0x31, [m0, m1] => some (.guideOff tag (nat2 m0 m1))
  | 0x38, i :: d :: f :: q :: n0 :: n1 :: n2 :: n3 :: r0 :: r1 :: r2 :: r3 :: c0 :: c1 :: bs =>
    (atMost 12 (decodeClips bs)).map fun pairs =>
      .loadStop tag
        { index := i.toNat, id := d.toNat, flags := f.toNat, cue := optional 0xFF q.toNat,
          announce := nat4 n0 n1 n2 n3, arrival := nat4 r0 r1 r2 r3,
          chime := optional 0xFFFF (nat2 c0 c1), pairs }
  | 0x39, [] => some (.clearStops tag)
  | 0x3A, [] => some (.stopRequest tag)
  | 0x3B, [i] => some (.getStop tag i.toNat)
  | 0x40, [c0, c1, g] => some (.bedStart tag (nat2 c0 c1) g.toInt)
  | 0x41, [] => some (.bedStop tag)
  | 0x42, [g] => some (.bedLevel tag g.toInt)
  | 0x43, [f, s, t, l, b] => some (.speakerSet tag f.toNat s.toNat t.toNat l.toInt b.toNat)
  | 0x44, [] => some (.getMixer tag)
  | 0x48, [n, e, d] => some (.nodeSet tag n.toNat e.toNat d.toNat)
  | 0x49, [j, p, v] => some (.jackSet tag j.toNat p.toNat v.toNat)
  | 0x4A, [j] => some (.getJack tag j.toNat)
  | 0x50, [o, m, l, f0, f1] => some (.zones tag o.toNat m.toNat l.toNat (nat2 f0 f1))
  | 0x51, [z, l, n] => some (.zoneSet tag z.toNat l.toNat n.toNat)
  | 0x52, c :: r :: bs => (atMost 8 (decodeSteps bs)).map (.defineCue tag c.toNat r.toNat)
  | 0x53, [c] => some (.runCue tag c.toNat)
  | 0x54, [p] => some (.stopCue tag p.toNat)
  | 0x55, [] => some (.lightsClearFault tag)
  | 0x56, [] => some (.getZones tag)
  | _, _ => none

/-- The link's two tests of a request frame (R171), and the request of a frame that passes both. -/
def decodeRequest (f : Frame) : Except RefuseCode Instr :=
  if f.kind.toNat ∈ requestKinds then
    match decodePayload f.kind.toNat f.tag f.payload with
    | some i => .ok i
    | none => .error .badLength
  else .error .badKind

/-! ## The frame of a request -/

/-- The frame that spells a request; an event has none. -/
def encodeRequest : Instr → Option Frame
  | .hello tag => some ⟨0x01, tag, []⟩
  | .getStatus tag => some ⟨0x02, tag, []⟩
  | .setup tag pairs => some ⟨0x03, tag, pairs.flatMap fun c => byteOf c.1 :: bytesS4 c.2⟩
  | .getSetup tag => some ⟨0x04, tag, []⟩
  | .linkRate tag code => some ⟨0x05, tag, [byteOf code]⟩
  | .restart tag => some ⟨0x06, tag, []⟩
  | .setState tag target => some ⟨0x07, tag, [byteOf target]⟩
  | .position tag d v a => some ⟨0x10, tag, bytes4 d ++ bytes2 v ++ bytes2 a⟩
  | .routeReset tag start => some ⟨0x11, tag, bytes4 start⟩
  | .getRoute tag => some ⟨0x12, tag, []⟩
  | .defineClip tag clip kind byte3 first count marks =>
    some ⟨0x18, tag,
      bytes2 clip ++ [byteOf kind, byteOf byte3] ++ bytes2 first ++ bytes2 count ++
        marks.flatMap bytes2⟩
  | .deleteClip tag clip => some ⟨0x19, tag, bytes2 clip⟩
  | .getClip tag clip => some ⟨0x1A, tag, bytes2 clip⟩
  | .storeResume tag => some ⟨0x1B, tag, []⟩
  | .programmeSet tag prog enabled language trim bed =>
    some ⟨0x20, tag, [byteOf prog, byteOf enabled, byteOf language, bytesS1 trim, byteOf bed]⟩
  | .getProgramme tag prog => some ⟨0x21, tag, [byteOf prog]⟩
  | .queueSegment tag q =>
    some ⟨0x22, tag,
      bytes2 q.id ++ [byteOf q.prog, byteOf q.flags] ++ bytes2 q.main ++
        bytes2 (ofOptional 0xFFFF q.short) ++ bytes4 (ofOptional 0xFFFFFFFF q.trigger) ++
        bytes4 (ofOptional 0xFFFFFFFF q.cancel) ++
        [byteOf (ofOptional 0 q.group), byteOf (ofOptional 0xFF q.cue)]⟩
  | .cancelSegment tag id => some ⟨0x23, tag, bytes2 id⟩
  | .openGroup tag g =>
    some ⟨0x28, tag,
      [byteOf g.id, byteOf (ofOptional 0xFF g.cue)] ++ bytes2 g.declared ++ bytes2 g.hold ++
        bytes4 g.trigger ++ bytes4 (ofOptional 0xFFFFFFFF g.cancel)⟩
  | .closeGroup tag id => some ⟨0x29, tag, [byteOf id]⟩
  | .getGroup tag id => some ⟨0x2A, tag, [byteOf id]⟩
  | .guideOn tag mask => some ⟨0x30, tag, bytes2 mask⟩
  | .guideOff tag mask => some ⟨0x31, tag, bytes2 mask⟩
  | .loadStop tag f =>
    some ⟨0x38, tag,
      [byteOf f.index, byteOf f.id, byteOf f.flags, byteOf (ofOptional 0xFF f.cue)] ++
        bytes4 f.announce ++ bytes4 f.arrival ++ bytes2 (ofOptional 0xFFFF f.chime) ++
        f.pairs.flatMap fun c => byteOf c.1 :: bytes2 c.2⟩
  | .clearStops tag => some ⟨0x39, tag, []⟩
  | .stopRequest tag => some ⟨0x3A, tag, []⟩
  | .getStop tag index => some ⟨0x3B, tag, [byteOf index]⟩
  | .bedStart tag clip gain => some ⟨0x40, tag, bytes2 clip ++ [bytesS1 gain]⟩
  | .bedStop tag => some ⟨0x41, tag, []⟩
  | .bedLevel tag gain => some ⟨0x42, tag, [bytesS1 gain]⟩
  | .speakerSet tag feed source filter level bed =>
    some ⟨0x43, tag, [byteOf feed, byteOf source, byteOf filter, bytesS1 level, byteOf bed]⟩
  | .getMixer tag => some ⟨0x44, tag, []⟩
  | .nodeSet tag node declared deck =>
    some ⟨0x48, tag, [byteOf node, byteOf declared, byteOf deck]⟩
  | .jackSet tag jack prog volume => some ⟨0x49, tag, [byteOf jack, byteOf prog, byteOf volume]⟩
  | .getJack tag jack => some ⟨0x4A, tag, [byteOf jack]⟩
  | .zones tag op mask level fade =>
    some ⟨0x50, tag, [byteOf op, byteOf mask, byteOf level] ++ bytes2 fade⟩
  | .zoneSet tag zone onLevel night =>
    some ⟨0x51, tag, [byteOf zone, byteOf onLevel, byteOf night]⟩
  | .defineCue tag cue passes steps =>
    some ⟨0x52, tag, [byteOf cue, byteOf passes] ++
      steps.flatMap fun c => [byteOf c.mask, byteOf c.level] ++ bytes2 c.fade ++ bytes2 c.hold⟩
  | .runCue tag cue => some ⟨0x53, tag, [byteOf cue]⟩
  | .stopCue tag player => some ⟨0x54, tag, [byteOf player]⟩
  | .lightsClearFault tag => some ⟨0x55, tag, []⟩
  | .getZones tag => some ⟨0x56, tag, []⟩
  | .hardReset _ _ _ => none
  | .ignRisingEdge => none
  | .ignFallingEdge => none
  | .ignOffTimerExpiry => none
  | .inactivityTimerExpiry => none
  | .ampSettleTimerExpiry => none
  | .doorOpeningEdge => none
  | .stopReqActiveEdge => none
  | .pttActiveEdge => none
  | .pttInactiveEdge => none
  | .pttTimerExpiry => none
  | .gmicRisingEdge => none
  | .gmicFallingEdge => none
  | .lampFaultActiveEdge => none
  | .extrapolationPeriod => none
  | .staleTimerExpiry => none
  | .reportAgeTick => none
  | .storeGrant => none
  | .readCompletion _ _ => none
  | .readMonitorExpiry => none
  | .playerBlockPeriod _ => none
  | .mixerBlockPeriod _ _ => none
  | .holdTimerExpiry _ => none
  | .liftTimerExpiry => none
  | .pollSend => none
  | .seatReply _ => none
  | .responseTimerExpiry _ => none
  | .roundTimerExpiry => none
  | .fadeClockTick => none
  | .stepTimerExpiry _ => none
  | .lampSettleExpiry => none
  | .offTimerExpiry => none
  | .ambientSample _ => none
  | .byteArrival _ => none
  | .receiverByte => none
  | .gapTimerExpiry => none
  | .requestHandover => none
  | .frameSendBegin => none
  | .frameSendEnd => none
  | .lampFaultInactiveEdge => none

end Sys2Proof
end

