-- ==== Sys2Proof/Machine/State.lean ====
section
/-! DEFINITION. The state of the DS-1264 as plain data, everything the spec gives each block, and the
state right after a hard reset (R165). INVENTORY.md lists each field with its rule and reset value. -/

namespace Sys2Proof.Machine

/-- The DS-1264. The last three fields are the model's: the passing of time, the expiries that a reload
overtook, and the queue of commands that wait. -/
structure State where
  /-- Chapter 1: the route clock. -/
  route    : RouteClock
  /-- 10.5: the setup items. -/
  setup    : Setup
  /-- 2.1: the clip directory. -/
  clips    : Directory
  /-- 2.5, 2.6: the store interface and its arbiter. -/
  store    : Store
  /-- 2.4: the thirteen fetch channels. -/
  chans    : Table 13 Channel
  /-- Chapters 3 and 5: the programmes with their players and places. -/
  progs    : Table 12 Programme
  /-- The arrival number the next accepted segment takes (R43, R45). -/
  arrivals : Nat
  /-- 4.1: the group table. -/
  groups   : Table 16 (Option Group)
  /-- The release order the next released record takes (R61, R72). -/
  releases : Nat
  /-- 5.5, 5.6: the guide state and driver PA. -/
  voice    : Voice
  /-- 6.1: the stop table. -/
  stops    : Table 64 (Option Stop)
  /-- 6.5: the announcement record. -/
  ann      : Announcement
  /-- Chapter 7: the mixer and the level unit. -/
  mixer    : Mixer
  /-- 8.1: the node records. -/
  nodes    : Table 16 NodeRec
  /-- 8.2: the jack records. -/
  jacks    : Table 64 JackRec
  /-- 8.4: polls and rounds. -/
  loop     : Loop
  /-- 9.1: the zone records. -/
  zones    : Table 8 ZoneRec
  /-- 9.3: the cue table. -/
  cues     : Table 32 (Option Cue)
  /-- 9.4 to 9.6: cue players, lamp supply, day state. -/
  lamps    : Lamps
  /-- 10.1: the operating-state record. -/
  op       : OpUnit
  /-- Chapter 11: the host link. -/
  link     : Link
  /-- The present time in ms, which suspended-since and absent-since times are read from. The model's
  own field: it counts the steps made on an empty queue, 1 ms each. -/
  now      : Nat
  /-- The expiries due at the present moment whose timers another event has loaded again first: they do
  not happen (R8, R162, R168). The model's own field (assumption 2). -/
  overtaken : List Reloaded
  /-- The commands that wait, first in, first out. -/
  pending  : List Instr
  deriving DecidableEq, Repr

/-- The reasons a step stops the machine. There are none: the spec describes no event after which the
part does not go on, so no meaning faults and the type has no constructor. Safe. -/
inductive Fault where
  deriving DecidableEq, Repr

/-- The reasons a command has no meaning. -/
inductive Refusal where
  /-- Raised by an arm of `exec` for a command not modelled yet; no arm raises it in this model.
  Safe. -/
  | notModelled (mnemonic : String)
  deriving DecidableEq, Repr

/-- 320 samples of 0 (R50). -/
def silentBlock : Block := List.replicate 320 0

/-- The route clock after a hard reset (R1). -/
def RouteClock.reset : RouteClock :=
  { est := 0, rem := 0, odo := 0, speed := 0, state := .unset, stale := none, start := 0, age := none }

/-- The setup items' hard-reset defaults (10.5). -/
def Setup.defaults : Setup :=
  { jumpLimit := 250, staleTime := 5, storeBlocks := 0, resumeLimit := 20, passMargin := 30,
    fallback := 0, doorCue := none, duckDepth := 24, liftSlope := 1, liftMax := 12, ceiling := -12,
    stepDefault := 8, langUpper := 0, langLower := 0, releaseFade := 500, lampSettle := 150,
    dark := 200, light := 320, courtesyMask := 0, courtesyLevel := 80 }

/-- A fetch channel after a hard reset (R24). -/
def Channel.reset : Channel :=
  { state := .idle, counter := 0, current := none, clip := none, next := 0, remaining := 0,
    staged := none, fifo := [], inFlight := none }

/-- The store interface after a hard reset (R30, R34). -/
def Store.reset : Store := { state := .ready, faults := 0, last := 12, monitor := none }

/-- What a player that has produced nothing yet offers the mixer: an IDLE player's silence. -/
def Voiced.idle : Voiced := { speech := .silence, state := .idle, level := -1 }

/-- A programme record and its player after a hard reset (R39, R50, R76). -/
def Programme.reset (enabled : Bool) : Programme :=
  { enabled, language := 0, trim := 0, bed := true, underruns := 0, player := .idle, active := none,
    staged := none, stack := [], queue := [], priming := none, voiced := .idle }

/-- The preemption unit after a hard reset, for the sampled level of GMIC (R84, R89). -/
def Voice.reset (gmic : Bool) : Voice := { mic := gmic, guide := 0, pa := .off, ptt := none }

/-- The announcement record IDLE (R105). -/
def Announcement.idle : Announcement :=
  { stop := none, participating := 0, outstanding := 0, heard := 0, cut := 0 }

/-- The mixer after a hard reset (R115, R122). -/
def Mixer.reset : Mixer :=
  { bedState := .off, bedClip := none, bedTag := none, bedPos := 0, bedGain := -36,
    ducks := .fill 12 0, upperDuck := 0, lowerDuck := 0,
    upper := { source := 0, filter := .announce, level := -12, bed := false },
    lower := { source := 0, filter := .all, level := -12, bed := true },
    lift := 0, liftGoal := 0, codes := .fill 64 .mute, progOut := .fill 12 silentBlock,
    spkUpper := silentBlock, spkLower := silentBlock }

/-- A node record after a hard reset (R131). -/
def NodeRec.reset : NodeRec := { declared := false, deck := .lower, state := .offline, misses := 0 }

/-- A jack record after a hard reset (R134); the step is STEP_DEFAULT. -/
def JackRec.reset : JackRec :=
  { state := .unknown, sense := none, language := 0, volume := Setup.defaults.stepDefault,
    assigned := false, absentAt := none, update := none, confirmed := none }

/-- Polls and rounds after a hard reset (R137, R145): the round begun at once found no node and ended,
and the 1 s round timer runs. -/
def Loop.reset : Loop :=
  { polls := [], round := 0, next := none, due := false, roundTimer := some 1000 }

/-- A zone record after a hard reset (R146). -/
def ZoneRec.reset : ZoneRec :=
  { base := 0, onLevel := 200, nightOnly := false, owner := none, overlay := none, target := 0,
    fadeTime := 0, fadeStart := 0, elapsed := 0, output := 0 }

/-- Cue players, supply and day state after a hard reset with LAMP_FAULT inactive (R151, R154, R156).
The latest ambient reading has no stated reset value: 0, DESIGN CHOICE (assumption 4), unsafe. -/
def Lamps.reset : Lamps :=
  { stopRun := none, sceneRun := none, supply := .off, settle := none, off := none,
    faultLine := false, day := .day, run := 0, ambient := 0 }

/-- The operating-state unit after a hard reset, for the sampled level of IGN (R159): LAYOVER, the
inactivity timer loaded with 30 min. -/
def OpUnit.reset (ign : Bool) : OpUnit :=
  { state := .layover, ign, ignOff := none, inactivity := some 1800000, settle := none,
    ampEn := false }

/-- The link after a hard reset (R177). The frame on TXD, a pending rate and a pending RESTART are dropped,
DESIGN CHOICE (assumption 21). -/
def Link.reset : Link :=
  { rate := 0, pendingRate := none, receiver := .hunt, gap := none, rxFifo := [], requests := [],
    replies := [], notices := [], lost := false, tx := none, restarting := false, gapErrors := 0,
    checkErrors := 0, lengthErrors := 0, overrunErrors := 0 }

/-- The part right after a hard reset at which GMIC and IGN are sampled at the given levels and
LAMP_FAULT is inactive (R165). -/
def State.resetAt (gmic ign : Bool) : State :=
  { route := .reset, setup := .defaults, clips := [], store := .reset, chans := .fill 13 .reset,
    progs := (Table.fill 12 (.reset false)).write 0 (.reset true), arrivals := 0,
    groups := .fill 16 none, releases := 0, voice := .reset gmic, stops := .fill 64 none,
    ann := .idle, mixer := .reset, nodes := .fill 16 .reset, jacks := .fill 64 .reset,
    loop := .reset, zones := .fill 8 .reset, cues := .fill 32 none, lamps := .reset,
    op := .reset ign, link := .reset, now := 0,
    overtaken := [], pending := [] }

/-- The part right after reset. The levels of the vehicle lines at that moment come from the wiring:
all inactive, DESIGN CHOICE (assumption 3), unsafe. -/
def State.reset : State := State.resetAt false false

end Sys2Proof.Machine
end

