-- ==== Sys2Proof/Machine/Ops.lean ====
section
/-! DEFINITION. The named operations over the state that every block shares: reading and writing one
record of a table, the clip directory, the notice queue (R174), replies (R171), and the offering of a
complete frame to the request queue (R170). A part that takes a request as soon as it arrives and one
that must let it wait differ only in `viaLink`. The block has no processor's exception to take: an error
line or flag it raises is an effect on the state like any other. -/

namespace Sys2Proof.Machine

/-! ## Records of the tables -/

/-- The programme record and player of a programme. -/
def State.prog (s : State) (p : Prog) : Programme := s.progs.read p

/-- The state with one programme replaced. -/
def State.setProg (s : State) (p : Prog) (x : Programme) : State :=
  { s with progs := s.progs.write p x }

/-- A fetch channel. -/
def State.chan (s : State) (c : Chan) : Channel := s.chans.read c

/-- The state with one fetch channel replaced. -/
def State.setChan (s : State) (c : Chan) (x : Channel) : State :=
  { s with chans := s.chans.write c x }

/-- A group table slot. -/
def State.group (s : State) (g : GroupSlot) : Option Group := s.groups.read g

/-- The state with one group table slot replaced. -/
def State.setGroup (s : State) (g : GroupSlot) (x : Option Group) : State :=
  { s with groups := s.groups.write g x }

/-- A stop table slot. -/
def State.stop (s : State) (i : StopIx) : Option Stop := s.stops.read i

/-- The state with one stop table slot replaced. -/
def State.setStop (s : State) (i : StopIx) (x : Option Stop) : State :=
  { s with stops := s.stops.write i x }

/-- A node record. -/
def State.node (s : State) (n : Node) : NodeRec := s.nodes.read n

/-- The state with one node record replaced. -/
def State.setNode (s : State) (n : Node) (x : NodeRec) : State :=
  { s with nodes := s.nodes.write n x }

/-- A jack record. -/
def State.jack (s : State) (j : Jack) : JackRec := s.jacks.read j

/-- The state with one jack record replaced. -/
def State.setJack (s : State) (j : Jack) (x : JackRec) : State :=
  { s with jacks := s.jacks.write j x }

/-- A zone record. -/
def State.zone (s : State) (z : Zone) : ZoneRec := s.zones.read z

/-- The state with one zone record replaced. -/
def State.setZone (s : State) (z : Zone) (x : ZoneRec) : State :=
  { s with zones := s.zones.write z x }

/-- The fetch channel that serves a programme: Fn for Pn. -/
def chanOf (p : Prog) : Chan := p.castSucc

/-- F12, the bed's channel. -/
def bedChan : Chan := 12

/-- The programmes in ascending order. -/
def allProgs : List Prog := List.finRange 12

/-- The fetch channels in ascending order. -/
def allChans : List Chan := List.finRange 13

/-- The group table slots in ascending order. -/
def allSlots : List GroupSlot := List.finRange 16

/-- The stop indexes in ascending order. -/
def allStops : List StopIx := List.finRange 64

/-- The node addresses in ascending order. -/
def allNodes : List Node := List.finRange 16

/-- The jacks in ascending order. -/
def allJacks : List Jack := List.finRange 64

/-- The zones in ascending order. -/
def allZones : List Zone := List.finRange 8

/-- One action on each of a list of records, in the list's order. -/
def forAll {α : Type} (l : List α) (f : α → State → State) (s : State) : State :=
  l.foldl (fun t a => f a t) s

/-! ## Timers loaded again (R8, R162, R168) -/

/-- A timer with `left` ms to run is loaded again: an expiry that is due at this very moment does not
happen. -/
def overtake (r : Reloaded) (left : Option Nat) (s : State) : State :=
  if left = some 0 ∧ r ∉ s.overtaken then { s with overtaken := r :: s.overtaken } else s

/-- The expiry of a timer: `expired`, or nothing where the timer was loaded again first. -/
def unlessOvertaken (r : Reloaded) (expired s : State) : State :=
  if r ∈ s.overtaken then { s with overtaken := s.overtaken.erase r } else expired

/-! ## The clip directory (2.1) -/

/-- The record of a clip number, `none` for an undefined number (R18). -/
def Directory.find : Directory → Nat → Option Clip
  | [], _ => none
  | (k, c) :: rest, n => if k = n then some c else Directory.find rest n

/-- The directory with a record written for a clip number, numbers kept rising. -/
def Directory.put : Directory → Nat → Clip → Directory
  | [], n, c => [(n, c)]
  | (k, d) :: rest, n, c =>
    if n < k then (n, c) :: (k, d) :: rest
    else if n = k then (n, c) :: rest
    else (k, d) :: Directory.put rest n c

/-- The directory without a clip number's record. -/
def Directory.erase (d : Directory) (n : Nat) : Directory := d.filter fun e => decide (e.1 ≠ n)

/-- The canonical form: clip numbers strictly rising. -/
def Directory.wf (d : Directory) : Bool := decide ((d.map Prod.fst).Pairwise (· < ·))

/-- The record of a clip number in the part's directory. -/
def State.clip (s : State) (n : Nat) : Option Clip := s.clips.find n

/-- A clip's block count; 0 for an undefined number. -/
def State.clipBlocks (s : State) (n : Nat) : Nat := ((s.clip n).map Clip.count).getD 0

/-- A clip's first store block; 0 for an undefined number. -/
def State.clipFirst (s : State) (n : Nat) : Nat := ((s.clip n).map Clip.first).getD 0

/-- The greatest sentence mark of a clip at or below a position, and 0 where there is none (R23). -/
def State.markBelow (s : State) (n pos : Nat) : Nat :=
  (((s.clip n).map Clip.marks).getD []).foldl (fun best m => if m ≤ pos then max best m else best) 0

/-- A BED clip's loop point: its first sentence mark, or 0 (R23, R37). -/
def State.loopPoint (s : State) (n : Nat) : Nat :=
  (((s.clip n).map Clip.marks).getD []).headD 0

/-! ## References to clips (R22) -/

/-- The references a segment holds to a clip. -/
def Segment.refs (g : Segment) (n : Nat) : Nat :=
  (if g.main = n then 1 else 0) + (if g.short = some n then 1 else 0)

/-- The segments a programme holds, in its active item, staged slot, stack and queue. -/
def Programme.segments (x : Programme) : List Segment :=
  (match x.active with
    | some (.segment g _ _) => [g]
    | _ => []) ++
  (match x.staged with
    | some g => [g.seg]
    | none => []) ++
  x.stack.filterMap (fun e =>
    match e with
    | .segment g => some g
    | _ => none) ++
  x.queue

/-- The references a stop record holds to a clip. -/
def Stop.refs (t : Stop) (n : Nat) : Nat :=
  (if t.chime = some n then 1 else 0) + t.clips.countP fun c => decide (c.2 = n)

/-- A clip's in-use count: the references held by segments, stop records and the bed (R22). -/
def State.uses (s : State) (n : Nat) : Nat :=
  (s.progs.toList.map fun x => (x.segments.map fun g => g.refs n).sum).sum +
  (s.stops.toList.map fun t => (t.map fun r => r.refs n).getD 0).sum +
  (if s.mixer.bedClip = some n then 1 else 0)

/-! ## The notice queue (R174) -/

/-- The kind code of a notice (12.4). -/
def Notice.code : Notice → Nat
  | .routeState _ _ => 0x80
  | .jump _ _ => 0x81
  | .storeFault _ _ _ _ => 0x82
  | .underrun _ _ => 0x83
  | .segmentStarted _ _ _ _ _ => 0x84
  | .segmentDone _ _ => 0x85
  | .segmentMissed _ _ _ _ => 0x86
  | .groupReleased _ _ _ _ _ => 0x87
  | .groupEnded _ _ => 0x88
  | .guideLost _ => 0x89
  | .paStuck => 0x8A
  | .stopState _ => 0x8B
  | .bedState _ _ _ => 0x8C
  | .jackChange _ _ _ _ _ => 0x8D
  | .nodeLost _ => 0x8E
  | .nodeBack _ => 0x8F
  | .lampFault => 0x90
  | .daylight _ => 0x91
  | .opState _ _ => 0x92
  | .linkError _ _ _ => 0x93

/-- The number of a notice's object; a kind with one object only has 0. -/
def Notice.object : Notice → Nat
  | .routeState _ _ => 0
  | .jump _ _ => 0
  | .storeFault _ _ _ _ => 0
  | .underrun p _ => p.val
  | .segmentStarted id _ _ _ _ => id
  | .segmentDone id _ => id
  | .segmentMissed id _ _ _ => id
  | .groupReleased id _ _ _ _ => id
  | .groupEnded id _ => id
  | .guideLost _ => 0
  | .paStuck => 0
  | .stopState f => f.index.val
  | .bedState _ _ _ => 0
  | .jackChange j _ _ _ _ => j.val
  | .nodeLost n => n.val
  | .nodeBack n => n.val
  | .lampFault => 0
  | .daylight _ => 0
  | .opState _ _ => 0
  | .linkError _ _ _ => 0

/-- Whether two notices have the same kind and the same object. -/
def Notice.same (a b : Notice) : Bool :=
  decide (a.code = b.code) && decide (a.object = b.object)

/-- The queue with a notice of the same kind and object replaced in its place, if there is one. -/
def coalesce (n : Notice) : List Notice → Option (List Notice)
  | [] => none
  | m :: rest => if n.same m then some (n :: rest) else (coalesce n rest).map (m :: ·)

/-- A notice placed in the notice queue: coalesced, entered, or lost (R174). -/
def notify (n : Notice) (s : State) : State :=
  match coalesce n s.link.notices with
  | some q => { s with link := { s.link with notices := q } }
  | none =>
    if s.link.notices.length < 24 then
      { s with link := { s.link with notices := s.link.notices ++ [n] } }
    else { s with link := { s.link with lost := true } }

/-! ## Replies (R171, R179) -/

/-- A reply placed in the reply queue. -/
def reply (kind tag : Byte) (answer : Answer) (after : AfterSend) (s : State) : State :=
  { s with link := { s.link with replies := s.link.replies ++ [{ kind, tag, answer, after }] } }

/-- An ACK placed in the reply queue. -/
def ack (kind tag : Byte) (data : Ack) (s : State) : State := reply kind tag (.ack data) .nothing s

/-- A REFUSE placed in the reply queue; nothing else changes (R172). -/
def refuse (kind tag : Byte) (code : RefuseCode) (s : State) : State :=
  reply kind tag (.refuse code) .nothing s

/-! ## The request queue (R169, R170, R171) -/

/-- One more error of a reason, saturating at 65,535 (R169). -/
def Link.countError (l : Link) : LinkFault → Link
  | .gap => { l with gapErrors := min 65535 (l.gapErrors + 1) }
  | .check => { l with checkErrors := min 65535 (l.checkErrors + 1) }
  | .length => { l with lengthErrors := min 65535 (l.lengthErrors + 1) }
  | .overrun => { l with overrunErrors := min 65535 (l.overrunErrors + 1) }

/-- A reason's error count. -/
def Link.errors (l : Link) : LinkFault → Nat
  | .gap => l.gapErrors
  | .check => l.checkErrors
  | .length => l.lengthErrors
  | .overrun => l.overrunErrors

/-- A LINK_ERROR: its count grows, and then its notice carries the count (R169). -/
def linkError (reason : LinkFault) (frame : Option (Byte × Byte)) (s : State) : State :=
  notify (.linkError reason ((s.link.countError reason).errors reason) frame)
    { s with link := s.link.countError reason }

/-- A complete frame offered to the request queue: it enters the tail, or is discarded with OVERRUN
where the queue holds 4 (R170). -/
def offerFrame (f : Frame) (s : State) : State :=
  if s.link.requests.length < 4 then
    { s with link := { s.link with requests := s.link.requests ++ [f] } }
  else linkError .overrun (some (f.kind, f.tag)) s

/-- Whether the link may hand a request over now (R171): the reply queue has room and no RESTART is
pending. -/
def Link.mayHand (l : Link) : Bool := decide (l.replies.length < 4) && !l.restarting

/-- A request at the link: it is taken at once where the link may hand it over and no request stands
before it, and otherwise its frame is offered to the request queue, where it waits its turn (R170,
R171). -/
def viaLink (request : Instr) (taken : State) (s : State) : State :=
  if s.link.mayHand && s.link.requests.isEmpty then taken
  else
    match encodeRequest request with
    | some f => offerFrame f s
    | none => s

end Sys2Proof.Machine
end

