-- ==== Sys2Proof/Machine/Operands.lean ====
section
/-! DEFINITION. The operand forms of the requests: the range test of each kind of field with the value
it names (R178 and the owning rules), and the sets of programmes and zones. -/

namespace Sys2Proof.Machine

/-! ## Sets -/

/-- Whether a set holds a member. -/
def Mask.has {n : Nat} (m : BitVec n) (i : Fin n) : Bool := m.getLsbD i.val

/-- A set with a member added. -/
def Mask.insert {n : Nat} (m : BitVec n) (i : Fin n) : BitVec n := m ||| BitVec.twoPow n i.val

/-- A set with a member removed. -/
def Mask.erase {n : Nat} (m : BitVec n) (i : Fin n) : BitVec n := m &&& ~~~ BitVec.twoPow n i.val

/-- The members of a set in ascending order. -/
def Mask.members {n : Nat} (m : BitVec n) : List (Fin n) := (List.finRange n).filter (Mask.has m)

/-- The set of the indexes that satisfy a test. -/
def Mask.ofList {n : Nat} (l : List (Fin n)) : BitVec n := l.foldl Mask.insert 0

/-! ## Tests in order -/

/-- The refusal of the first test that fails in a rule's table of tests, `none` where all pass. -/
def firstFail : List (Bool × RefuseCode) → Option RefuseCode
  | [] => none
  | (passes, code) :: rest => if passes then firstFail rest else some code

/-! ## Range tests -/

/-- An index below `k`. -/
def indexOf (k n : Nat) : Option (Fin k) := if h : n < k then some ⟨n, h⟩ else none

/-- A yes/no byte (R178). -/
def yesNo : Nat → Option Bool
  | 0 => some false
  | 1 => some true
  | _ => none

/-- A programme mask that names only P0 to P11. -/
def progMaskOf (n : Nat) : Option ProgMask := if n < 2 ^ 12 then some (BitVec.ofNat 12 n) else none

/-- A programme mask that is not empty and names only P0 to P11. -/
def someProgs (n : Nat) : Option ProgMask := if n = 0 then none else progMaskOf n

/-- A zone mask that is not empty. -/
def someZones (n : Nat) : Option ZoneMask :=
  if n = 0 then none else if n < 2 ^ 8 then some (BitVec.ofNat 8 n) else none

/-- A value within a signed range. -/
def within (lo hi x : Int) : Bool := decide (lo ≤ x ∧ x ≤ hi)

/-- A route distance, at most 1,000,000 dm. -/
def isDistance (d : Nat) : Bool := decide (d ≤ 1000000)

/-- An absent distance, or one of at most 1,000,000 dm. -/
def isDistance? (o : Option Nat) : Bool := o.all isDistance

/-- A clip number, at most 1,023. -/
def isClip (n : Nat) : Bool := decide (n ≤ 1023)

/-- An absent light cue, or a cue number. -/
def isCue? (o : Option Nat) : Bool := o.all fun c => decide (c ≤ 31)

/-- A clip kind code (12.3). -/
def kindOf : Nat → Option ClipKind
  | 0 => some .speech
  | 1 => some .chime
  | 2 => some .bed
  | _ => none

/-- A SET_STATE target code (12.3). -/
def targetOf : Nat → Option OpState
  | 0 => some .run
  | 1 => some .layover
  | 2 => some .dormant
  | _ => none

/-- A speaker feed code (12.3). -/
def feedOf : Nat → Option Feed
  | 0 => some .upper
  | 1 => some .lower
  | _ => none

/-- A feed filter code (12.3). -/
def filterOf : Nat → Option Filter
  | 0 => some .all
  | 1 => some .guideUp
  | 2 => some .announce
  | _ => none

/-- A deck code (12.3). -/
def deckOf : Nat → Option Deck
  | 0 => some .lower
  | 1 => some .upper
  | _ => none

/-- A cue player code (12.3). -/
def cuePlayerOf : Nat → Option CuePlayer
  | 0 => some .stop
  | 1 => some .scene
  | _ => none

/-- The operations of ZONES (R149). -/
inductive ZoneOp where
  | load
  | set
  | clear
  | toggle
  deriving DecidableEq, Repr

/-- A ZONES operation code (12.3). -/
def zoneOpOf : Nat → Option ZoneOp
  | 0 => some .load
  | 1 => some .set
  | 2 => some .clear
  | 3 => some .toggle
  | _ => none

/-- A sense code of a seat-loop reply (12.5). -/
def senseOf : Nat → Option Sense
  | 0 => some .opened
  | 1 => some .headset
  | 2 => some .short
  | _ => none

/-- A button code of a seat-loop reply (12.5). -/
def buttonOf : Nat → Option Button
  | 0 => some .langNext
  | 1 => some .volUp
  | 2 => some .volDown
  | _ => none

end Sys2Proof.Machine
end

