-- ==== Sys2Proof/Machine/Clips.lean ====
section
/-! DEFINITION. The clip directory's requests (2.1): DEFINE_CLIP, DELETE_CLIP, GET_CLIP. -/

namespace Sys2Proof.Machine

/-- Whether sentence marks are each below the block count and strictly increasing (R18, R20). -/
def marksFit (count : Nat) (marks : List Nat) : Bool :=
  marks.all (fun m => decide (m < count)) && decide (marks.Pairwise (· < ·))

/-- The tests of DEFINE_CLIP in order (R20). A byte 3 other than 0 counts as a field out of range
(DESIGN CHOICE, assumption 16). -/
def State.defineClipRefusal (s : State) (clip kind byte3 first count : Nat) (marks : List Nat) :
    Option RefuseCode :=
  firstFail [
    (decide (s.setup.storeBlocks ≠ 0), .noStore),
    (isClip clip && (kindOf kind).isSome && decide (byte3 = 0), .range),
    (decide (1 ≤ count ∧ first + count ≤ s.setup.storeBlocks), .range),
    (decide (marks.length ≤ 8) && marksFit count marks, .range),
    ((s.clip clip).isNone || decide (s.uses clip = 0), .inUse)]

/-- DEFINE_CLIP (R20). -/
def takeDefineClip (tag : Byte) (clip kind byte3 first count : Nat) (marks : List Nat) (s : State) :
    State :=
  match s.defineClipRefusal clip kind byte3 first count marks, kindOf kind with
  | some code, _ => refuse 0x18 tag code s
  | none, some k =>
    ack 0x18 tag (.defined (if (s.clip clip).isSome then .replaced else .new))
      { s with clips := s.clips.put clip { kind := k, first, count, marks } }
  | none, none => refuse 0x18 tag .range s

/-- DELETE_CLIP (R21). -/
def takeDeleteClip (tag : Byte) (clip : Nat) (s : State) : State :=
  match firstFail [
    (isClip clip, .range),
    ((s.clip clip).isSome, .unknownId),
    (decide (s.uses clip = 0), .inUse)] with
  | some code => refuse 0x19 tag code s
  | none => ack 0x19 tag .empty { s with clips := s.clips.erase clip }

/-- GET_CLIP (R21). -/
def takeGetClip (tag : Byte) (clip : Nat) (s : State) : State :=
  if isClip clip then
    match s.clip clip with
    | some c => ack 0x1A tag (.clip clip c (s.uses clip)) s
    | none => refuse 0x1A tag .unknownId s
  else refuse 0x1A tag .range s

/-! ## The commands -/

/-- DEFINE_CLIP at the link. -/
def execDefineClip (tag : Byte) (clip kind byte3 first count : Nat) (marks : List Nat) (s : State) :
    Host.Outcome State Fault Refusal :=
  .next (viaLink (.defineClip tag clip kind byte3 first count marks)
    (takeDefineClip tag clip kind byte3 first count marks s) s)

/-- DELETE_CLIP at the link. -/
def execDeleteClip (tag : Byte) (clip : Nat) (s : State) : Host.Outcome State Fault Refusal :=
  .next (viaLink (.deleteClip tag clip) (takeDeleteClip tag clip s) s)

/-- GET_CLIP at the link. -/
def execGetClip (tag : Byte) (clip : Nat) (s : State) : Host.Outcome State Fault Refusal :=
  .next (viaLink (.getClip tag clip) (takeGetClip tag clip s) s)

end Sys2Proof.Machine
end

