-- ==== Sys2Proof/Machine/Levels.lean ====
section
/-! DEFINITION. The level conversion and the sample arithmetic of Chapter 7: `lin`, the scaling of a
sample, `sat16`, and the level of a volume step. -/

namespace Sys2Proof.Machine

/-- lin(x) for x = 0, −1, …, −180 hdB: round(32,768 × 10^(x/40)), limited to 32,767 (R116).
`Obligations.LinIsTheRoundedPower` states each entry from that formula. -/
def linTable : List Nat :=
  [32767, 30935, 29205, 27571, 26029, 24573, 23198, 21900, 20675, 19519, 18427, 17396,
   16423, 15504, 14637, 13818, 13045, 12315, 11627, 10976, 10362, 9783, 9235, 8719,
   8231, 7771, 7336, 6925, 6538, 6172, 5827, 5501, 5193, 4903, 4629, 4370,
   4125, 3894, 3677, 3471, 3277, 3093, 2920, 2757, 2603, 2457, 2320, 2190] ++
  [2068, 1952, 1843, 1740, 1642, 1550, 1464, 1382, 1305, 1232, 1163, 1098,
   1036, 978, 924, 872, 823, 777, 734, 693, 654, 617, 583, 550,
   519, 490, 463, 437, 413, 389, 368, 347, 328, 309, 292, 276,
   260, 246, 232, 219, 207, 195, 184, 174, 164, 155, 146, 138] ++
  [130, 123, 116, 110, 104, 98, 92, 87, 82, 78, 73, 69,
   65, 62, 58, 55, 52, 49, 46, 44, 41, 39, 37, 35,
   33, 31, 29, 28, 26, 25, 23, 22, 21, 20, 18, 17,
   16, 16, 15, 14, 13, 12, 12, 11, 10, 10, 9, 9] ++
  [8, 8, 7, 7, 7, 6, 6, 6, 5, 5, 5, 4,
   4, 4, 4, 3, 3, 3, 3, 3, 3, 2, 2, 2,
   2, 2, 2, 2, 2, 2, 1, 1, 1, 1, 1, 1,
   1]

/-- The multiplier of a level in hdB (R116). The mixer converts no level above 0; one would read the
entry of 0. -/
def lin (x : Int) : Int := if x < -180 then 0 else (linTable.getD (-x).toNat 0 : Nat)

/-- A value scaled by a multiplier: floor((a × m + 16,384) / 32,768) (R116). -/
def scale (a m : Int) : Int := (a * m + 16384) / 32768

/-- x limited to −32,768 to 32,767, as a sample. -/
def sat16 (x : Int) : Sample := BitVec.ofInt 16 (max (-32768) (min 32767 x))

/-- One output sample from a speech sample, a bed sample and the bed's level under it (R121). -/
def mixSample (speech bed : Sample) (level : Int) : Sample :=
  sat16 (speech.toInt + scale bed.toInt (lin level))

/-- One speaker sample from a feed's mix and its gain (R124). -/
def gainSample (m : Sample) (gain : Int) : Sample := sat16 (scale m.toInt (lin gain))

/-- A block built sample by sample from a function of the place in the block. -/
def buildBlock (f : Nat → Sample) : Block := (List.range 320).map f

/-- A block's sample at a place; a block shorter than 320 samples reads as 0 beyond its end. -/
def Block.sample (b : Block) (i : Nat) : Sample := b.getD i 0

/-- The level V(s) of a volume step, −90 + 6 × s hdB (R127). -/
def stepLevel (volume : Nat) : Int := -90 + 6 * volume

end Sys2Proof.Machine
end

