-- ==== Sys2Proof/Machine/Flags.lean ====
section
/-! DEFINITION. What the part computes from its state without holding it: the lines CTS, ATN and
LAMP_EN, the conditions the rules read (a free store port, a channel's request and its class, held
speaker outputs, the speed in force, the deck default in force), a player's level, a jack's gain code
and a zone's effective target. -/

namespace Sys2Proof.Machine

/-! ## Lines -/

/-- CTS is asserted while the request queue holds fewer than 4 (R170). -/
def State.cts (s : State) : Bool := decide (s.link.requests.length < 4)

/-- ATN is asserted while the notice queue holds a notice (R174). -/
def State.atn (s : State) : Bool := !s.link.notices.isEmpty

/-- LAMP_EN is on in SETTLING and ON (R154). -/
def State.lampEn (s : State) : Bool :=
  match s.lamps.supply with
  | .settling => true
  | .on => true
  | .off => false
  | .faulted => false

/-- The speaker outputs are held while AMP_EN is off or the settle timer runs (R125). -/
def State.speakersHeld (s : State) : Bool := !s.op.ampEn || s.op.settle.isSome

/-- What the seat loop's slot of a programme carries: the mixer's block in RUN, silence in LAYOVER,
nothing while the loop is stopped (R133). -/
def State.loopSlot (s : State) (p : Prog) : Option Block :=
  match s.op.state with
  | .run => some (s.mixer.progOut.read p)
  | .layover => some silentBlock
  | .dormant => none

/-! ## The route clock and the store -/

/-- The speed in force: V in RUN and TRACKING, else 0 (R10). -/
def State.speedInForce (s : State) : Nat :=
  if s.op.state = .run ∧ s.route.state = .tracking then s.route.speed else 0

/-- The store port is free while no read is in flight (R30). -/
def State.portFree (s : State) : Bool := allChans.all fun c => (s.chan c).inFlight.isNone

/-- Whether a channel requests a read (R29). -/
def State.requesting (s : State) (c : Chan) : Bool :=
  decide (s.store.state = .ready) && decide ((s.chan c).state = .run) &&
    (s.chan c).inFlight.isNone && decide ((s.chan c).fifo.length ≤ 7) &&
    decide (0 < (s.chan c).remaining)

/-- Whether a channel's request is URGENT (R29). -/
def State.urgent (s : State) (c : Chan) : Bool := decide ((s.chan c).fifo.length ≤ 2)

/-- Whether O has reached a distance in dm; an absent distance is never reached. -/
def State.reaches (s : State) (d : Option Nat) : Bool :=
  (d.map fun c => decide (100 * c ≤ s.route.odo)).getD false

/-! ## Players -/

/-- An item's level (R75). -/
def Item.level : Item → Int
  | .segment _ _ _ => 0
  | .guide => 1
  | .stop _ _ _ _ => 2
  | .driver => 3

/-- A stack entry's level (R75). -/
def Entry.level : Entry → Int
  | .segment _ => 0
  | .guide => 1
  | .stop _ => 2

/-- A player's level: its active item's, or −1 (R75). -/
def Programme.level (x : Programme) : Int := (x.active.map Item.level).getD (-1)

/-- The clip a segment plays: its chosen clip (R43). -/
def Segment.clipOf (g : Segment) (choice : ClipChoice) : Nat :=
  match choice with
  | .main => g.main
  | .short => g.short.getD g.main

/-- The clip a segment plays by the choice recorded in it. -/
def Segment.clip (g : Segment) : Nat := g.clipOf (g.chosen.getD .main)

/-- The enabled programmes. -/
def State.enabledMask (s : State) : ProgMask :=
  Mask.ofList (allProgs.filter fun p => (s.prog p).enabled)

/-! ## Groups -/

/-- The slot of the record that holds a group ID. -/
def State.groupSlot (s : State) (id : Nat) : Option GroupSlot :=
  allSlots.find? fun g => ((s.group g).map fun r => decide (r.id = id)).getD false

/-- The record that holds a group ID. -/
def State.groupOf (s : State) (id : Nat) : Option Group := (s.groupSlot id).bind s.group

/-- A segment's effective trigger in dm: its own, or its group's (R43). -/
def State.triggerOf (s : State) (g : Segment) : Nat :=
  match g.group with
  | none => g.trigger.getD 0
  | some id => ((s.groupOf id).map Group.trigger).getD 0

/-! ## Stops -/

/-- A stop's pass point, mm (R96). -/
def State.passPoint (s : State) (t : Stop) : Nat := 100 * t.arrival + 1000 * s.setup.passMargin

/-! ## Seat loop and levels -/

/-- The deck default in force (R135): the configured programme if enabled, else the lowest-numbered
enabled programme. With no programme enabled, which no request brings about (R40), it is P0. -/
def State.deckDefault (s : State) (d : Deck) : Prog :=
  let wanted := match d with
    | .upper => s.setup.langUpper
    | .lower => s.setup.langLower
  if (s.prog wanted).enabled then wanted
  else (allProgs.find? fun p => (s.prog p).enabled).getD 0

/-- A jack's node: its number divided by 4 (R134). -/
def nodeOf (j : Jack) : Node := ⟨j.val / 4, by omega⟩

/-- A jack's position within its node (R134). -/
def positionOf (j : Jack) : Nat := j.val % 4

/-- The jack of a node at a position. -/
def jackAt (n : Node) (pos : Fin 4) : Jack := ⟨4 * n.val + pos.val, by omega⟩

/-- A node's four jacks in ascending position. -/
def jacksOf (n : Node) : List Jack := (List.finRange 4).map (jackAt n)

/-- A jack's gain G = min(C, V(s) + W + trim) (R127). -/
def State.jackGain (s : State) (j : Jack) : Int :=
  min s.setup.ceiling
    (stepLevel (s.jack j).volume +
      (if (s.node (nodeOf j)).deck = .upper then (s.mixer.lift : Int) else 0) +
      (s.prog (s.jack j).language).trim)

/-- A jack's gain code as computed from its inputs (R127). -/
def State.gainCode (s : State) (j : Jack) : GainCode :=
  if s.op.state ≠ .run ∨ (s.node (nodeOf j)).declared = false ∨ (s.jack j).state = .fault ∨
      (s.jack j).volume = 0 ∨ s.jackGain j < -120 then .mute
  else .level (-s.jackGain j).toNat

/-- A jack's current gain code, held by the level unit. -/
def State.code (s : State) (j : Jack) : GainCode := s.mixer.codes.read j

/-- A feed's settings. -/
def State.feed (s : State) : Feed → FeedSettings
  | .upper => s.mixer.upper
  | .lower => s.mixer.lower

/-- A feed's speaker gain, at most 0 hdB; the wind lift counts on UPPER alone (R124). -/
def State.speakerGain (s : State) : Feed → Int
  | .upper => min 0 (s.mixer.upper.level + s.mixer.lift)
  | .lower => min 0 s.mixer.lower.level

/-! ## Lights -/

/-- A zone's effective target (R147). -/
def State.zoneTarget (s : State) (z : Zone) : Nat :=
  let r := s.zone z
  let shown (level : Nat) : Nat := if r.nightOnly ∧ s.lamps.day = .day then 0 else level
  match s.op.state with
  | .run => if r.owner.isSome then r.overlay.getD 0 else shown r.base
  | .layover => if Mask.has s.setup.courtesyMask z then shown s.setup.courtesyLevel else 0
  | .dormant => 0

/-- Whether some zone's effective target is above 0. -/
def State.anyTarget (s : State) : Bool := allZones.any fun z => decide (0 < (s.zone z).target)

/-- Whether every zone's output and effective target are 0. -/
def State.allDark (s : State) : Bool :=
  allZones.all fun z => decide ((s.zone z).target = 0) && decide ((s.zone z).output = 0)

/-- A cue player's running cue. -/
def Lamps.running (l : Lamps) : CuePlayer → Option CueRun
  | .stop => l.stopRun
  | .scene => l.sceneRun

/-- The lighting unit with a cue player's running cue replaced. -/
def Lamps.setRunning (l : Lamps) (r : Option CueRun) : CuePlayer → Lamps
  | .stop => { l with stopRun := r }
  | .scene => { l with sceneRun := r }

end Sys2Proof.Machine
end

