-- ==== Sys2Proof/Machine/Channels.lean ====
section
/-! DEFINITION. The fetch channels' own operations (Chapter 2): issuing a tag, a load, staging,
chaining, withdrawal, flush, a take, the grant of a read and the landing of its block. What the landing
starts elsewhere (readiness, store failure) is in Store.lean. -/

namespace Sys2Proof.Machine

/-! ## One channel -/

/-- The tags a new tag passes over (R25): the read in flight's, the current tag, the staged tag and
those of the blocks in the FIFO. -/
def Channel.tagsInUse (c : Channel) : List Tag :=
  (c.inFlight.map Read.tag).toList ++ c.current.toList ++ (c.staged.map Reload.tag).toList ++
    c.fifo.map FifoBlock.tag

/-- The first value after `t`, modulo 256, that is not in use; at most `fuel` values are passed over. -/
def freshTag (used : List Tag) : Nat → Tag → Tag
  | 0, t => t + 1
  | fuel + 1, t => if t + 1 ∈ used then freshTag used fuel (t + 1) else t + 1

/-- The tag a channel issues next (R25). -/
def Channel.newTag (c : Channel) : Tag := freshTag c.tagsInUse 255 c.counter

/-- A load (R26): the channel as left by it, its new current tag being `Channel.newTag` after steps 1
and 2. `blocks` is the clip's block count. -/
def Channel.load (c : Channel) (clip start blocks : Nat) : Channel :=
  let emptied := { c with fifo := [], staged := none }
  let tag := emptied.newTag
  { emptied with
    state := .run, counter := tag, current := some tag, clip := some clip, next := start,
    remaining := blocks - start }

/-- Chaining: the staged item becomes the current one (R31). `blocks` gives a clip's block count. -/
def Channel.chain (c : Channel) (blocks : Nat → Nat) : Channel :=
  match c.staged with
  | some r =>
    { c with
      current := some r.tag, clip := some r.clip, next := r.start,
      remaining := blocks r.clip - r.start, staged := none }
  | none => c

/-- Whether a read carrying the current tag is in flight. -/
def Channel.currentInFlight (c : Channel) : Bool :=
  match c.inFlight with
  | some r => decide (c.current = some r.tag)
  | none => false

/-- Staging (R27), which chains at once where nothing of the current item is left to fetch. -/
def Channel.stage (c : Channel) (clip start : Nat) (blocks : Nat → Nat) : Channel :=
  let tag := c.newTag
  let staged := { c with
    counter := tag, state := .run, staged := some { clip := clip, start := start, tag := tag } }
  if c.remaining = 0 ∧ c.currentInFlight = false then staged.chain blocks else staged

/-- The withdrawal of a staged item by its tag (R28). -/
def Channel.withdraw (c : Channel) (t : Tag) : Channel :=
  if c.staged.map Reload.tag = some t then
    let left := { c with staged := none }
    if left.current.isNone && left.fifo.isEmpty then { left with state := .idle } else left
  else if c.current = some t then
    let left := { c with
      fifo := c.fifo.filter fun b => decide (b.tag ≠ t), current := none, remaining := 0 }
    if left.staged.isNone && left.fifo.isEmpty then { left with state := .idle } else left
  else c

/-- A flush (R28). -/
def Channel.flush (c : Channel) : Channel :=
  { c with fifo := [], staged := none, current := none, remaining := 0, state := .idle }

/-- A take: the oldest block and the channel without it; a channel in RUN that the take leaves empty
with neither a current tag nor a staged set becomes IDLE (R32). -/
def Channel.take (c : Channel) : Option (FifoBlock × Channel) :=
  match c.fifo with
  | [] => none
  | b :: rest =>
    let left := { c with fifo := rest }
    some (b,
      if rest.isEmpty && c.current.isNone && c.staged.isNone then { left with state := .idle }
      else left)

/-- How many blocks in the FIFO carry one of some tags (R32). -/
def Channel.countTags (c : Channel) (tags : List Tag) : Nat :=
  c.fifo.countP fun b => decide (b.tag ∈ tags)

/-- Whether a block of a read is accepted: its tag is the current or the staged tag (R31). -/
def Channel.accepts (c : Channel) (t : Tag) : Bool :=
  decide (c.current = some t) || decide (c.staged.map Reload.tag = some t)

/-- A read's block treated by its tag (R31, R33): appended and counted, or discarded. -/
def Channel.land (c : Channel) (r : Read) (samples : Block) : Channel :=
  if c.accepts r.tag then
    { c with
      fifo := c.fifo ++ [{ tag := r.tag, offset := r.offset, samples := samples }],
      next := c.next + 1, remaining := c.remaining - 1 }
  else c

/-! ## Channels within the part -/

/-- The tag a load of a channel issues, as the state stands. -/
def State.loadTag (s : State) (c : Chan) : Tag :=
  ({ s.chan c with fifo := [], staged := none } : Channel).newTag

/-- A channel loaded with a clip from an offset (R26). -/
def loadChan (c : Chan) (clip start : Nat) (s : State) : State :=
  s.setChan c ((s.chan c).load clip start (s.clipBlocks clip))

/-- A clip staged on a channel (R27). -/
def stageChan (c : Chan) (clip start : Nat) (s : State) : State :=
  s.setChan c ((s.chan c).stage clip start s.clipBlocks)

/-- A staged item withdrawn from a channel (R28). -/
def withdrawChan (c : Chan) (t : Tag) (s : State) : State := s.setChan c ((s.chan c).withdraw t)

/-- A channel flushed (R28). -/
def flushChan (c : Chan) (s : State) : State := s.setChan c (s.chan c).flush

/-- The bed's loop: F12's next offset and blocks remaining once its blocks remaining reach 0 (R37). -/
def Channel.loopBed (c : Channel) (loop blocks : Nat) : Channel :=
  { c with next := loop, remaining := blocks - loop }

/-- What follows an accepted block that leaves no blocks remaining: a chain (R31), and on F12 the loop
(R37). -/
def State.follow (s : State) (c : Chan) (x : Channel) : Channel :=
  if x.remaining = 0 then
    if c = bedChan then
      match x.clip with
      | some n => x.loopBed (s.loopPoint n) (s.clipBlocks n)
      | none => x
    else x.chain s.clipBlocks
  else x

/-- A read's block landed on its channel, whose read in flight is cleared (R31, R33). -/
def landBlock (c : Chan) (r : Read) (samples : Block) (s : State) : State :=
  let cleared := { s.chan c with inFlight := none }
  if cleared.accepts r.tag then s.setChan c (s.follow c (cleared.land r samples))
  else s.setChan c cleared

/-- The read in flight in the part and its channel (R30: there is at most one). -/
def State.readInFlight (s : State) : Option (Chan × Read) :=
  allChans.findSome? fun c => (s.chan c).inFlight.map fun r => (c, r)

/-- The channels in the cyclic order that starts after the one last granted (R30). -/
def State.grantOrder (s : State) : List Chan :=
  allChans.drop (s.store.last.val + 1) ++ allChans.take (s.store.last.val + 1)

/-- The channel the arbiter grants: the first in the cyclic order among the URGENT requests, or else
among the NORMAL ones (R30). -/
def State.grantee (s : State) : Option Chan :=
  match s.grantOrder.find? fun c => s.requesting c && s.urgent c with
  | some c => some c
  | none => s.grantOrder.find? fun c => s.requesting c

/-- A grant: the read marked in flight, the pointer moved, the 5 ms read monitor loaded (R30, R33). -/
def grantChan (c : Chan) (s : State) : State :=
  match (s.chan c).current, (s.chan c).clip with
  | some t, some n =>
    { s.setChan c { s.chan c with
        inFlight := some {
          tag := t, clip := n, offset := (s.chan c).next,
          block := s.clipFirst n + (s.chan c).next } } with
      store := { s.store with last := c, monitor := some 5 } }
  | _, _ => s

end Sys2Proof.Machine
end

