-- ==== Sys2Proof/Machine/LightOps.lean ====
section
/-! DEFINITION. The lighting unit's shared operations (Chapter 9): deciding the effective targets again,
fades, the lamp supply, and starting, stepping and releasing a cue player. -/

namespace Sys2Proof.Machine

/-! ## Fades (R147, R148) -/

/-- A fade's output at its elapsed time: the fade start plus (target − start) × t / F, the fraction cut
toward 0 (R148). -/
def fadeOutput (start target t f : Nat) : Nat :=
  if f ≤ t then target
  else ((start : Int) + (((target : Int) - start) * t).tdiv f).toNat

/-- A zone whose target changes to `target` with fade time `f`. With the supply ON a fade begins from
the present output; otherwise the change is recorded (R148), with fade start and elapsed time 0, DESIGN
CHOICE (assumption 33). -/
def ZoneRec.head (z : ZoneRec) (on : Bool) (target f : Nat) : ZoneRec :=
  if on then
    { z with
      target := target, fadeTime := f, fadeStart := z.output, elapsed := 0,
      output := if f = 0 then target else z.output }
  else { z with target := target, fadeTime := f, fadeStart := 0, elapsed := 0, output := 0 }

/-- A zone moved on by 1 ms of its fade (R148). A fade that has ended leaves fade start and elapsed time at
their last values, DESIGN CHOICE (assumption 33). -/
def ZoneRec.tick (z : ZoneRec) : ZoneRec :=
  if z.elapsed < z.fadeTime then
    { z with
      elapsed := z.elapsed + 1,
      output := fadeOutput z.fadeStart z.target (z.elapsed + 1) z.fadeTime }
  else z

/-- A zone made dark with no fade running (R148). Its fade start and elapsed time are then 0, DESIGN
CHOICE (assumption 33). -/
def ZoneRec.hold (z : ZoneRec) : ZoneRec := { z with fadeStart := 0, elapsed := 0, output := 0 }

/-- One function applied to every zone. -/
def mapZones (f : Zone → ZoneRec → ZoneRec) (s : State) : State :=
  forAll allZones (fun z t => t.setZone z (f z (t.zone z))) s

/-! ## The lamp supply (R154) -/

/-- The supply becomes ON: its settle timer is stopped and every zone whose target is above 0 begins a
fade from 0 with the fade time recorded last. -/
def supplyOn (s : State) : State :=
  mapZones (fun _ z => if 0 < z.target then z.hold.head true z.target z.fadeTime else z.hold)
    { s with lamps := { s.lamps with supply := .on, settle := none, off := none } }

/-- The off timer of a supply that is ON: running while every zone is dark, stopped otherwise. -/
def offTimer (s : State) : State :=
  { s with lamps := { s.lamps with
      off := if s.allDark then some (s.lamps.off.getD 10000) else none } }

/-- The supply in OFF enters SETTLING, or ON at once where LAMP_SETTLE is 0. -/
def supplySettle (s : State) : State :=
  if s.setup.lampSettle = 0 then offTimer (supplyOn s)
  else { s with lamps := { s.lamps with supply := .settling, settle := some s.setup.lampSettle } }

/-- The supply follows the targets at the end of an event. -/
def supplyFollow (s : State) : State :=
  match s.lamps.supply with
  | .off => if s.anyTarget then supplySettle s else s
  | .on => offTimer s
  | .settling => s
  | .faulted => s

/-- The effective targets decided again at the end of an event, each changed one with the fade time the
event gives its zone, and the supply after them (R147, R154). -/
def retarget (fade : Zone → Nat) (s : State) : State :=
  supplyFollow (forAll allZones
    (fun z t =>
      if t.zoneTarget z = (t.zone z).target then t
      else t.setZone z
        ((t.zone z).head (decide (t.lamps.supply = .on)) (t.zoneTarget z) (fade z))) s)

/-- The effective targets decided again over RELEASE_FADE. -/
def retargetSlow (s : State) : State := retarget (fun _ => s.setup.releaseFade) s

/-! ## Cue players (R151, R152) -/

/-- A player's zones given up: owner none, overlay removed (R152). -/
def releaseZones (p : CuePlayer) (s : State) : State :=
  mapZones (fun _ z => if z.owner = some p then { z with owner := none, overlay := none } else z) s

/-- Whether a player's step takes a zone: its mask names it, and SCENE does not take a zone that STOP
owns (R152). -/
def takesZone (p : CuePlayer) (c : CueStep) (z : Zone) (r : ZoneRec) : Bool :=
  Mask.has c.mask z && !(decide (p = .scene) && decide (r.owner = some .stop))

/-- The zones of a step taken by a player (R152). -/
def takeZones (p : CuePlayer) (c : CueStep) (s : State) : State :=
  mapZones (fun z r =>
    if takesZone p c z r then { r with owner := some p, overlay := some c.level } else r) s

/-- The step timer's load: fade plus hold, or 10 ms when both are 0 (R152). -/
def CueStep.time (c : CueStep) : Nat := if c.fade + c.hold = 0 then 10 else c.fade + c.hold

/-- A player takes step `k` (1 is the first) of pass `pass` of a cue: its zones and its timer; the
targets are decided afterwards. -/
def takeStep (p : CuePlayer) (n : CueIx) (k pass : Nat) (c : CueStep) (s : State) : State :=
  let t := takeZones p c s
  { t with lamps := t.lamps.setRunning (some { cue := n, step := k, pass := pass, timer := c.time }) p }

/-- The fade time of an event in which a player takes a step: the step's for the zones it takes,
RELEASE_FADE for the others. -/
def stepFade (p : CuePlayer) (c : CueStep) (s : State) (z : Zone) : Nat :=
  if (s.zone z).owner = some p ∧ Mask.has c.mask z then c.fade else s.setup.releaseFade

/-- A player releases its zones and becomes IDLE; the targets are decided afterwards. -/
def idlePlayer (p : CuePlayer) (s : State) : State :=
  let t := releaseZones p s
  { t with lamps := t.lamps.setRunning none p }

/-- A cue ended or stopped: released zones fade over RELEASE_FADE (R152). -/
def endCue (p : CuePlayer) (s : State) : State := retargetSlow (idlePlayer p s)

/-- A cue started on a player (R151). An undefined cue is not started, and no cue is started outside
RUN (R157). -/
def cueStart (p : CuePlayer) (n : Nat) (s : State) : State :=
  match (indexOf 32 n).bind fun i => (s.cues.read i).map fun c => (i, c) with
  | none => s
  | some (i, c) =>
    match c.steps with
    | [] => s
    | first :: _ =>
      if s.op.state = .run then
        let t := takeStep p i 1 1 first (releaseZones p s)
        retarget (stepFade p first t) t
      else s

/-- A cue started where a source names one (R153). -/
def cueStart? (p : CuePlayer) (o : Option Nat) (s : State) : State :=
  match o with
  | some n => cueStart p n s
  | none => s

end Sys2Proof.Machine
end

