-- ==== Sys2Proof/Machine/PlayerOps.lean ====
section
/-! DEFINITION. The shared operations of the programme players, the group table and the preemption
unit (Chapters 3 to 5): the fit test, a segment's entry into and removal from the queue, leaving the
part, starting, staging, priming, the next choice, preemption requests, arming and release. A report of
a stop item's end changes the announcement's masks here; the stop table's answer to an emptied mask is
`settleAnnouncement` (StopOps.lean), made once the players' event is complete. -/

namespace Sys2Proof.Machine

/-! ## Places -/

/-- A programme changed by a function. -/
def State.mapProg (s : State) (p : Prog) (f : Programme → Programme) : State :=
  s.setProg p (f (s.prog p))

/-- A programme's queue replaced. -/
def setQueue (p : Prog) (q : List Segment) (s : State) : State :=
  s.mapProg p fun x => { x with queue := q }

/-! ## The fit test (R16, R17) -/

/-- The next announce point: that of the lowest-indexed PENDING stop announced beyond the odometer
(R17 step 1), dm. -/
def State.nextAnnounce (s : State) : Option Nat :=
  allStops.findSome? fun i =>
    match s.stop i with
    | some t => if t.state = .pending ∧ s.route.odo < 100 * t.announce then some t.announce else none
    | none => none

/-- The fit test with `w` ms left of the active item (R17); `none` is NO_FIT. -/
def State.fitTest (s : State) (g : Segment) (w : Nat) : Option ClipChoice :=
  if !g.fit then some .main
  else
    match s.nextAnnounce with
    | none => some .main
    | some p =>
      if s.speedInForce = 0 then some .main
      else
        let time : Int := ((100 * p - s.route.odo) * 100 / s.speedInForce : Nat)
        let room : Int := time - w
        if ((s.clipBlocks g.main * 20 : Nat) : Int) ≤ room then some .main
        else
          match g.short with
          | some c => if ((s.clipBlocks c * 20 : Nat) : Int) ≤ room then some .short else none
          | none => none

/-! ## Group records -/

/-- The record of a group ID changed by a function; nothing where no record holds the ID (R73). -/
def State.mapGroup (s : State) (id : Nat) (f : Group → Group) : State :=
  match s.groupSlot id with
  | some g => s.setGroup g ((s.group g).map f)
  | none => s

/-- A programme's ready bit in a group cleared (R69). -/
def clearReady (id : Nat) (p : Prog) (s : State) : State :=
  s.mapGroup id fun g => { g with ready := Mask.erase g.ready p }

/-- A programme that no longer holds an unstarted member (R65). -/
def disenrol (id : Nat) (p : Prog) (s : State) : State :=
  s.mapGroup id fun g =>
    { g with enrolled := Mask.erase g.enrolled p, ready := Mask.erase g.ready p }

/-- The priming on a programme's channel ends: the channel is flushed and the tag forgotten (R69). -/
def endPriming (p : Prog) (s : State) : State :=
  if (s.prog p).priming.isSome then
    flushChan (chanOf p) (s.mapProg p fun x => { x with priming := none })
  else s

/-! ## The queue (R46) -/

/-- A segment put in a queue by effective trigger, then arrival number. -/
def insertSegment (s : State) (g : Segment) : List Segment → List Segment
  | [] => [g]
  | h :: rest =>
    if s.triggerOf g < s.triggerOf h ∨ (s.triggerOf g = s.triggerOf h ∧ g.arrival < h.arrival) then
      g :: h :: rest
    else h :: insertSegment s g rest

/-- A WAITING segment that is no longer the head returns to QUEUED, its priming ends and its ready bit
is cleared (R46, R69). -/
def unwait (p : Prog) (g : Segment) (s : State) : State :=
  let t := endPriming p (s.mapProg p fun x =>
    { x with queue := x.queue.map fun h =>
        if h.id = g.id then { h with state := .queued, held := none } else h })
  match g.group with
  | some id => clearReady id p t
  | none => t

/-- A segment enters its programme's queue (R46). -/
def enqueue (p : Prog) (g : Segment) (s : State) : State :=
  let before := (s.prog p).queue
  let t := setQueue p (insertSegment s g before) s
  match before.head?, (t.prog p).queue.head? with
  | some old, some new => if old.state = .waiting ∧ new.id ≠ old.id then unwait p old t else t
  | _, _ => t

/-! ## Leaving the part (R49) -/

/-- A segment already out of its place is told to its group (R49 step 3, R65); a member that was being
primed has its channel flushed. -/
def leaveGroup (p : Prog) (g : Segment) (s : State) : State :=
  match g.group with
  | some id => disenrol id p (if g.state = .waiting then endPriming p s else s)
  | none => s

/-- A segment already out of its place is removed with a reason (R49). -/
def miss (p : Prog) (g : Segment) (reason : MissReason) (s : State) : State :=
  notify (.segmentMissed g.id p reason g.state) (leaveGroup p g s)

/-- A segment already out of its place completes (R49, R55). -/
def done (p : Prog) (g : Segment) (s : State) : State := notify (.segmentDone g.id p) (leaveGroup p g s)

/-- Segments removed with one reason, in a list's order. -/
def missAll (p : Prog) (gs : List Segment) (reason : MissReason) (s : State) : State :=
  forAll gs (fun g t => miss p g reason t) s

/-! ## Reports of stop items (R108) -/

/-- A stop item of the announcement in progress ended by consumption. -/
def reportHeard (p : Prog) (i : StopIx) (s : State) : State :=
  if s.ann.stop = some i then
    { s with ann := { s.ann with
        outstanding := Mask.erase s.ann.outstanding p, heard := Mask.insert s.ann.heard p } }
  else s

/-- A stop item of the announcement in progress was discarded or ended. -/
def reportCut (p : Prog) (i : StopIx) (s : State) : State :=
  if s.ann.stop = some i then
    { s with ann := { s.ann with
        outstanding := Mask.erase s.ann.outstanding p, cut := Mask.insert s.ann.cut p } }
  else s

/-! ## Starting a clip item (R51, R52) -/

/-- A segment becomes the active item: SEGMENT_STARTED, and the light cue of an ungrouped segment whose
cue has not run (R51). -/
def activate (p : Prog) (g : Segment) (tag : Tag) (offset : Nat) (resumed : Bool) (s : State) : State :=
  let active := { g with state := .active, cueRun := g.cueRun || g.group.isNone }
  let t := s.mapProg p fun x => { x with active := some (.segment active tag offset) }
  let u := notify (.segmentStarted g.id p (g.chosen.getD .main) offset resumed) t
  if g.group.isNone && !g.cueRun then cueStart? .scene g.cue u else u

/-- A segment started or resumed by a load of its chosen clip (R51); the load leaves no priming of a
member on the channel (R69). -/
def startSegment (p : Prog) (g : Segment) (offset : Nat) (resumed : Bool) (s : State) : State :=
  let tag := s.loadTag (chanOf p)
  let t := loadChan (chanOf p) g.clip offset s
  activate p g tag offset resumed (t.mapProg p fun x => { x with player := .priming, priming := none })

/-- The clip of a stop item's part. -/
def StopItem.clip (i : StopItem) : Nat :=
  match i.part with
  | .chime => i.chime.getD 0
  | .language => i.lang.getD 0

/-- A stop item started or resumed at its resume offset: its part is loaded, and the language clip is
staged behind a chime (R52). -/
def startStopItem (p : Prog) (i : StopItem) (s : State) : State :=
  let tag := s.loadTag (chanOf p)
  let t := loadChan (chanOf p) i.clip i.resume s
  match i.part, i.lang with
  | .chime, some n =>
    let u := stageChan (chanOf p) n 0 t
    u.mapProg p fun x =>
      { x with
        player := .priming,
        active := some (.stop i tag (some (u.chan (chanOf p)).counter) i.resume) }
  | _, _ =>
    t.mapProg p fun x =>
      { x with player := .priming, active := some (.stop i tag none i.resume) }

/-- A live item becomes active: the channel is flushed and the player enters LIVE (R83). -/
def startLive (p : Prog) (i : Item) (s : State) : State :=
  (flushChan (chanOf p) s).mapProg p fun x => { x with player := .live, active := some i }

/-! ## The player and the group table act on the queue head (R53, R54, R67, R68) -/

/-- Whether the store is READY. -/
def State.storeReady (s : State) : Bool := decide (s.store.state = .ready)

/-- Whether a programme's player may start a segment from idle (R53). -/
def State.mayStart (s : State) (p : Prog) : Bool :=
  (s.prog p).enabled && decide ((s.prog p).player = .idle) && s.storeReady

/-- The remaining time of an active segment behind which a player may stage, in ms (R54). -/
def State.stageRoom (s : State) (p : Prog) : Option Nat :=
  match (s.prog p).active with
  | some (.segment g _ pos) =>
    if ((s.prog p).player = .priming ∨ (s.prog p).player = .playing) ∧ (s.prog p).staged = none ∧
        s.store.state = .ready then
      some ((s.clipBlocks g.clip - pos) * 20)
    else none
  | _ => none

/-- A segment enters the staged slot and its chosen clip is staged at offset 0 (R54). -/
def stageSegment (p : Prog) (g : Segment) (s : State) : State :=
  let t := stageChan (chanOf p) g.clip 0 s
  t.mapProg p fun x =>
    { x with staged := some { seg := { g with state := .staged }, tag := (t.chan (chanOf p)).counter } }

/-- The state of a segment's group, where it has one with a record. -/
def State.groupState (s : State) (id : Nat) : Option GroupState := (s.groupOf id).map Group.state

/-- The group table primes the WAITING head with the clip the fit test chose (R68). -/
def primeHead (p : Prog) (g : Segment) (rest : List Segment) (c : ClipChoice) (s : State) : State :=
  let tag := s.loadTag (chanOf p)
  (loadChan (chanOf p) (g.clipOf c) 0 s).mapProg p fun x =>
    { x with
      queue := { g with state := .waiting, held := some c } :: rest, priming := some tag }

/-- The player acts on R53 and R54, and the group table on R67 and R68, for as long as one of their
conditions holds for the queue head. Each round takes a segment out of the queue or is the last, so the
queue's length bounds them. -/
def pump (p : Prog) : Nat → State → State
  | 0, s => s
  | fuel + 1, s =>
    match (s.prog p).queue with
    | [] => s
    | g :: rest =>
      match g.group with
      | none =>
        if g.state = .eligible then
          if s.mayStart p then
            match s.fitTest g 0 with
            | some c =>
              pump p fuel (startSegment p { g with chosen := some c } 0 false (setQueue p rest s))
            | none => pump p fuel (miss p g .noFit (setQueue p rest s))
          else
            match s.stageRoom p with
            | some w =>
              match s.fitTest g w with
              | some c => pump p fuel (stageSegment p { g with chosen := some c } (setQueue p rest s))
              | none => pump p fuel (miss p g .noFit (setQueue p rest s))
            | none => s
        else s
      | some id =>
        if g.state = .queued ∧ s.groupState id = some .armed then
          match s.fitTest g 0 with
          | some c =>
            if s.mayStart p then primeHead p g rest c s
            else setQueue p ({ g with state := .waiting, held := some c } :: rest) s
          | none => pump p fuel (miss p g .noFit (setQueue p rest s))
        else if g.state = .waiting ∧ s.mayStart p ∧ (s.prog p).priming = none then
          match s.fitTest g 0 with
          | some c => primeHead p g rest c s
          | none => pump p fuel (miss p g .noFit (setQueue p rest s))
        else s

/-- The player and the group table act on the queue head until nothing more holds. -/
def act (p : Prog) (s : State) : State := pump p ((s.prog p).queue.length + 1) s

/-! ## The next choice (R56, R57) -/

/-- The player becomes IDLE and flushes its channel, and acts on its queue (R56 steps 3 and 4). -/
def goIdle (p : Prog) (s : State) : State :=
  act p (flushChan (chanOf p)
    (s.mapProg p fun x => { x with player := .idle, active := none }))

/-- What the resume checks make of a popped entry (R57). -/
inductive Resume where
  /-- The entry passes. -/
  | pass
  /-- A segment is removed with a reason. -/
  | missed (reason : MissReason)
  /-- A stop item is reported as discarded, or a guide item dropped. -/
  | discard
  /-- A clip item stays where it stood while the store is FAILED (R51). -/
  | stay
  deriving DecidableEq, Repr

/-- The resume checks (R57). With RESUME_LIMIT 0 a segment suspended for any time is STALE. -/
def State.resumeCheck (s : State) (p : Prog) : Entry → Resume
  | .segment g =>
    if s.reaches g.cancel then .missed .passed
    else if s.setup.resumeLimit = 0 ∨
        1000 * s.setup.resumeLimit < s.now - g.since.getD s.now then .missed .stale
    else if s.storeReady then .pass else .stay
  | .stop i =>
    if ((s.stop i.stop).map fun t =>
        decide (t.state = .passed) || decide (t.state = .skipped)).getD false then .discard
    else if s.storeReady then .pass else .stay
  | .guide => if Mask.has s.voice.guide p && s.voice.mic then .pass else .discard

/-- An entry that passed becomes the active item (R57). -/
def resume (p : Prog) (e : Entry) (s : State) : State :=
  match e with
  | .segment g => act p (startSegment p g g.resume true s)
  | .stop i => startStopItem p i s
  | .guide => startLive p .guide s

/-- The stack popped, top first, until an entry is resumed or none is left (R56 steps 2 to 4). -/
def popStack (p : Prog) : List Entry → State → State
  | [], s => goIdle p s
  | e :: below, s =>
    let t := s.mapProg p fun x => { x with stack := below }
    match s.resumeCheck p e, e with
    | .pass, _ => resume p e t
    | .stay, _ => goIdle p s
    | .missed reason, .segment g => popStack p below (miss p g reason t)
    | .discard, .stop i => popStack p below (reportCut p i.stop t)
    | _, _ => popStack p below t

/-- The next choice (R56). `consumed` says that the item before ended by consumption, where the channel
has chained, or will chain, to the staged segment; after any other end it is loaded anew. -/
def nextChoice (p : Prog) (consumed : Bool) (s : State) : State :=
  match (s.prog p).staged with
  | some g =>
    let t := s.mapProg p fun x => { x with staged := none }
    if consumed then act p (activate p g.seg g.tag 0 false t)
    else act p (startSegment p g.seg 0 false t)
  | none =>
    popStack p (s.prog p).stack (s.mapProg p fun x => { x with active := none })

/-- The active item ends otherwise than by consumption: its channel is flushed and the next choice is
made (R81). -/
def endActive (p : Prog) (s : State) : State :=
  nextChoice p false (flushChan (chanOf p) (s.mapProg p fun x => { x with active := none }))

/-! ## Preemption (R77 to R80) -/

/-- An item as it is recorded on the stack when it is pushed (R79). -/
def State.pushed (s : State) : Item → Option Entry
  | .segment g _ pos =>
    some (.segment
      { g with state := .suspended, resume := s.markBelow g.clip pos, since := some s.now })
  | .stop i _ _ pos => some (.stop { i with resume := s.markBelow i.clip pos })
  | .guide => some .guide
  | .driver => none

/-- The staged segment returns to the queue in state ELIGIBLE (R78 step 1). -/
def unstage (p : Prog) (s : State) : State :=
  match (s.prog p).staged with
  | some g =>
    enqueue p { g.seg with state := .eligible }
      (withdrawChan (chanOf p) g.tag (s.mapProg p fun x => { x with staged := none }))
  | none => s

/-- The priming of a WAITING head ends with its ready bit, the member staying WAITING (R78 step 4). -/
def dropPriming (p : Prog) (s : State) : State :=
  if (s.prog p).priming.isSome then
    let t := s.mapProg p fun x => { x with priming := none }
    match ((s.prog p).queue.head?).bind Segment.group with
    | some id => clearReady id p t
    | none => t
  else s

/-- A new item started on a player (R78 step 5). -/
def startItem (p : Prog) (e : Item) (s : State) : State :=
  match e with
  | .stop i _ _ _ => startStopItem p i s
  | .guide => startLive p .guide s
  | .driver => startLive p .driver s
  | .segment g _ _ => startSegment p g 0 false s

/-- A preemption (R78). -/
def preempt (p : Prog) (e : Item) (s : State) : State :=
  let t := flushChan (chanOf p) (unstage p s)
  let u :=
    match (t.prog p).active.bind t.pushed with
    | some entry => t.mapProg p fun x => { x with stack := entry :: x.stack, active := none }
    | none => t.mapProg p fun x => { x with active := none }
  startItem p e (dropPriming p u)

/-- A new item as an unstarted stack entry (R80). -/
def Item.unstarted : Item → Option Entry
  | .stop i _ _ _ => some (.stop i)
  | .guide => some .guide
  | .segment _ _ _ => none
  | .driver => none

/-- An entry put in a stack by its level (R80). -/
def insertEntry (e : Entry) : List Entry → List Entry
  | [] => [e]
  | h :: rest => if e.level < h.level then h :: insertEntry e rest else e :: h :: rest

/-- A preemption request on one player: the state it leaves and its answer (R77). -/
def request (p : Prog) (e : Item) (s : State) : State × Taken :=
  let x := s.prog p
  let live : Bool := match e with
    | .guide => true
    | .driver => true
    | .segment _ _ _ => false
    | .stop _ _ _ _ => false
  if !x.enabled then (s, .refusedState)
  else if !live && !s.storeReady then (s, .refusedNoStore)
  else if x.level = e.level ∨ x.stack.any (fun h => decide (h.level = e.level)) then
    (s, .refusedDuplicate)
  else if x.level < e.level then (preempt p e s, .started)
  else
    match e.unstarted with
    | some entry => (s.mapProg p fun y => { y with stack := insertEntry entry y.stack }, .inserted)
    | none => (s, .refusedDuplicate)

/-! ## Arming and release of a group (R66, R70 to R72) -/

/-- A member in the ready mask starts at its group's release (R71). -/
def startMember (g : Group) (p : Prog) (s : State) : State :=
  match (s.prog p).queue, (s.prog p).priming with
  | h :: rest, some tag =>
    if h.group = some g.id then
      let own := { h with
        group := none, trigger := some g.trigger, cancel := g.cancel, cueRun := true,
        chosen := h.held, held := none }
      let t := s.mapProg p fun x =>
        { x with queue := rest, priming := none, player := .playing }
      act p (activate p own tag 0 false t)
    else s
  | _, _ => s

/-- An enrolled member not ready is detached at its group's release (R72 steps 1 to 3). -/
def detachMember (g : Group) (p : Prog) (s : State) : State :=
  match (s.prog p).queue.find? fun h => decide (h.group = some g.id) with
  | none => s
  | some h =>
    let own := { h with
      group := none, trigger := some g.trigger, cancel := g.cancel, held := none,
      state := if s.reaches g.cancel then h.state
        else .eligible }
    let t := if h.state = .waiting then endPriming p s else s
    if s.reaches g.cancel then
      act p (miss p own .passed
        (t.mapProg p fun x => { x with queue := x.queue.filter fun y => decide (y.id ≠ h.id) }))
    else
      act p (t.mapProg p fun x =>
        { x with queue := x.queue.map fun y => if y.id = h.id then own else y })

/-- An ARMED group is released (R70 to R72). -/
def release (slot : GroupSlot) (cause : ReleaseCause) (s : State) : State :=
  match s.group slot with
  | none => s
  | some g =>
    let late := g.enrolled &&& ~~~ g.ready
    let t := forAll (Mask.members g.ready) (startMember g) s
    let u := forAll (Mask.members late) (detachMember g) t
    let v := if g.ready = 0 then u else cueStart? .scene g.cue u
    let w := notify (.groupReleased g.id cause g.declared g.ready late) v
    { w.setGroup slot (some { g with
        state := .released, timer := none, started := g.ready, detached := late,
        order := w.releases }) with
      releases := w.releases + 1 }

/-- The release condition ALL_READY tested on an ARMED group (R70). -/
def releaseIfReady (slot : GroupSlot) (s : State) : State :=
  match s.group slot with
  | some g => if g.state = .armed ∧ g.ready = g.declared then release slot .allReady s else s
  | none => s

/-- A group arms (R66 step 2); with a hold limit of 0 its hold timer expires at once. -/
def armGroup (slot : GroupSlot) (s : State) : State :=
  match s.group slot with
  | none => s
  | some g =>
    let t := s.setGroup slot (some { g with state := .armed, timer := some (g.hold * 100) })
    let u := forAll (Mask.members g.enrolled) act t
    if g.hold = 0 then release slot .holdExpiry u else u

/-- A group's unstarted members removed with a reason, in ascending programme order, and its slot
emptied; the players then act on their new heads (R63, R66). -/
def dissolve (slot : GroupSlot) (reason : MissReason) (s : State) : State :=
  match s.group slot with
  | none => s
  | some g =>
    let t := forAll (Mask.members g.enrolled)
      (fun p t =>
        match (t.prog p).queue.find? fun h => decide (h.group = some g.id) with
        | some h =>
          miss p h reason
            (t.mapProg p fun x => { x with queue := x.queue.filter fun y => decide (y.id ≠ h.id) })
        | none => t) s
    t.setGroup slot none

/-- A dissolved group's players act on their new heads, once the group's own notice has been placed: this
order is DESIGN CHOICE (assumption 30). -/
def dissolveAndAct (slot : GroupSlot) (reason : MissReason) (notice : Option Notice) (s : State) :
    State :=
  let members := ((s.group slot).map Group.enrolled).getD 0
  let t := dissolve slot reason s
  let u := match notice with
    | some n => notify n t
    | none => t
  forAll (Mask.members members) act u

/-- A ready bit set where a primed member's channel holds its needed blocks, and the release condition
tested as the ready mask grows (R69). -/
def testReady (p : Prog) (s : State) : State :=
  match (s.prog p).queue.head?, (s.prog p).priming with
  | some h, some tag =>
    match h.group.bind s.groupSlot with
    | some slot =>
      match s.group slot with
      | some g =>
        let needed := min 2 (s.clipBlocks (h.clipOf (h.held.getD .main)))
        if (s.prog p).player = .idle ∧ g.state = .armed ∧ Mask.has g.ready p = false ∧
            needed ≤ (s.chan (chanOf p)).countTags [tag] then
          releaseIfReady slot (s.setGroup slot (some { g with ready := Mask.insert g.ready p }))
        else s
      | none => s
    | none => s
  | _, _ => s

end Sys2Proof.Machine
end

