-- ==== Sys2Proof/Machine/StopOps.lean ====
section
/-! DEFINITION. The stop table's shared operations (Chapter 6): STOP_STATE notices, the pass and DUE
tests, the start and end of announcements, latches; and the handing of an odometer advance, a route
reset and the store's return to the three readers (R10, R13, R35). -/

namespace Sys2Proof.Machine

/-! ## STOP_STATE (R113) -/

/-- A STOP_STATE notice for a stop as it stands, with an announcement mark and the masks it carries. -/
def stopNote (i : StopIx) (mark : AnnMark) (participating heard cut : Option ProgMask) (s : State) :
    State :=
  match s.stop i with
  | none => s
  | some t =>
    notify (.stopState
      { index := i, id := t.id, state := t.state, skip := t.skip, latch := t.latch,
        announcement := mark, participating := participating, heard := heard, cut := cut }) s

/-- The announcement mark of a stop outside the start, end and drop of its announcement (R113). For a stop
whose announcement has already ended or been dropped it is NONE, DESIGN CHOICE (assumption 34). -/
def State.annMark (s : State) (i : StopIx) : AnnMark :=
  if s.ann.stop = some i then .inProgress else .none

/-- A stop's state and skip reason written, without a notice. -/
def putStopState (i : StopIx) (st : StopState) (skip : Option SkipReason) (s : State) : State :=
  match s.stop i with
  | none => s
  | some t => s.setStop i (some { t with state := st, skip := skip })

/-- A stop's change of state with its notice. -/
def moveStop (i : StopIx) (st : StopState) (skip : Option SkipReason) (s : State) : State :=
  stopNote i (s.annMark i) none none none (putStopState i st skip s)

/-! ## The tests of R101 -/

/-- The state a stop takes when O has reached its pass point (R101 step 1); `none` where it is not
changed. -/
def Stop.afterPass (t : Stop) : Option (StopState × Option SkipReason) :=
  match t.state with
  | .pending => some (if t.requestOnly && !t.latch then (.passed, none) else (.skipped, some .late))
  | .due => some (if t.requestOnly && !t.latch then (.passed, none) else (.skipped, some .late))
  | .announcing => some (.passed, none)
  | .announced => some (.passed, none)
  | .arrived => some (.passed, none)
  | .passed => none
  | .skipped => none

/-- The pass test of one stop against the present O. -/
def passTest (i : StopIx) (s : State) : State :=
  match s.stop i with
  | none => s
  | some t =>
    if s.passPoint t ≤ s.route.odo then
      match t.afterPass with
      | some (st, skip) => moveStop i st skip s
      | none => s
    else s

/-- Whether the DUE test of a stop passes against the present O. -/
def State.fallsDue (s : State) (t : Stop) : Bool :=
  decide (t.state = .pending) && decide (100 * t.announce ≤ s.route.odo) &&
    (!t.requestOnly || t.latch)

/-- The DUE test of one stop, with a notice. -/
def dueTest (i : StopIx) (s : State) : State :=
  match s.stop i with
  | none => s
  | some t => if s.fallsDue t then moveStop i .due none s else s

/-- The DUE test of one stop, without a notice (R98). -/
def dueTestQuiet (i : StopIx) (s : State) : State :=
  match s.stop i with
  | none => s
  | some t => if s.fallsDue t then putStopState i .due none s else s

/-! ## Announcements (R105 to R108) -/

/-- The clip a stop lists for a programme. -/
def Stop.clipFor (t : Stop) (p : Prog) : Option Nat :=
  (t.clips.find? fun c => decide (c.1 = p)).map Prod.snd

/-- The stop item of a programme, or none where it does not take part (R106). -/
def State.stopItemFor (s : State) (i : StopIx) (t : Stop) (p : Prog) : Option StopItem :=
  let lang := match t.clipFor p with
    | some c => some c
    | none => t.clipFor s.setup.fallback
  match t.chime, lang with
  | none, none => none
  | chime, lang =>
    some {
      stop := i, chime := chime, lang := lang,
      part := if chime.isSome then .chime else .language, resume := 0 }

/-- One programme's part in the start of an announcement (R107 step 2). -/
def joinAnnouncement (i : StopIx) (t : Stop) (p : Prog) (s : State) : State :=
  if (s.prog p).enabled then
    match s.stopItemFor i t p with
    | none => s
    | some item =>
      let r := request p (.stop item 0 none 0) s
      if r.2 = .started ∨ r.2 = .inserted then
        { r.1 with ann := { r.1.ann with
            participating := Mask.insert r.1.ann.participating p,
            outstanding := Mask.insert r.1.ann.outstanding p } }
      else r.1
  else s

/-- The announcement in progress ends (R108). -/
def endAnnouncement (s : State) : State :=
  match s.ann.stop with
  | none => s
  | some i =>
    let t := match s.stop i with
      | some r => if r.state = .announcing then putStopState i .announced none s else s
      | none => s
    let u := stopNote i .ended (some s.ann.participating) (some s.ann.heard) (some s.ann.cut) t
    { u with ann := .idle }

/-- An announcement starts (R107); with no participating programme it ends at once. -/
def startAnnouncement (i : StopIx) (t : Stop) (s : State) : State :=
  let a := putStopState i .announcing none { s with ann := { Announcement.idle with stop := some i } }
  let b := forAll allProgs (joinAnnouncement i t) a
  let c := cueStart? .stop t.cue b
  let d := stopNote i .inProgress (some c.ann.participating) none none c
  if d.ann.participating = 0 then endAnnouncement d else d

/-- One stop's turn in the start test (R105). -/
def tryStart (i : StopIx) (s : State) : State :=
  match s.stop i with
  | none => s
  | some t =>
    if s.ann.stop = none ∧ s.op.state = .run ∧ s.store.state = .ready ∧ t.state = .due then
      startAnnouncement i t s
    else s

/-- The start test (R105): the lowest-indexed DUE stop starts, and where its announcement ends at once
the test goes on to the next. -/
def startTest (s : State) : State := forAll allStops tryStart s

/-- The announcement in progress ends once no stop item is outstanding, and the start test follows
(R108). -/
def settleAnnouncement (s : State) : State :=
  if s.ann.stop.isSome && decide (s.ann.outstanding = 0) then startTest (endAnnouncement s) else s

/-- The announcement in progress is dropped (R110, R114). -/
def dropAnnouncement (reason : SkipReason) (s : State) : State :=
  match s.ann.stop with
  | none => s
  | some i =>
    let t := match s.stop i with
      | some r => if r.state = .announcing then putStopState i .skipped (some reason) s else s
      | none => s
    let u := stopNote i .dropped none (some s.ann.heard) (some s.ann.cut) t
    { u with ann := .idle }

/-! ## Latches and the door (R102, R104) -/

/-- The next stop (R102). -/
def State.nextStop (s : State) : Option StopIx :=
  allStops.find? fun i =>
    match s.stop i with
    | some t => decide (t.state ∈ [StopState.pending, .due, .announcing, .announced])
    | none => false

/-- A stop's latch set; one that was clear sends a notice, and the DUE test and start test follow
(R102). -/
def setLatch (i : StopIx) (s : State) : State :=
  match s.stop i with
  | none => s
  | some t =>
    if t.latch then s
    else
      let u := s.setStop i (some { t with latch := true })
      startTest (dueTest i (stopNote i (s.annMark i) none none none u))

/-- The door stop (R104). -/
def State.doorStop (s : State) : Option (StopIx × Stop) :=
  allStops.findSome? fun i =>
    (s.stop i).bind fun t => if t.state ∈ [StopState.passed, .skipped] then none else some (i, t)

/-! ## Odometer advances (R10) -/

/-- A staged ungrouped segment whose cancel O has reached is removed (R47 step 1). -/
def cancelStaged (p : Prog) (s : State) : State :=
  match (s.prog p).staged with
  | some g =>
    if s.reaches g.seg.cancel then
      miss p g.seg .passed
        (withdrawChan (chanOf p) g.tag (s.mapProg p fun x => { x with staged := none }))
    else s
  | none => s

/-- A segment in a queue after the eligibility test (R47 step 2). -/
def State.eligible (s : State) (g : Segment) : Segment :=
  if g.group.isNone && decide (g.state = .queued) && s.reaches g.trigger then
    { g with state := .eligible }
  else g

/-- One segment taken out of a programme's queue and removed with a reason. -/
def dropQueued (p : Prog) (reason : MissReason) (g : Segment) (s : State) : State :=
  miss p g reason
    (s.mapProg p fun x => { x with queue := x.queue.filter fun h => decide (h.id ≠ g.id) })

/-- A player takes an advance of the odometer (R47). -/
def playerAdvance (p : Prog) (s : State) : State :=
  let a := cancelStaged p s
  let late := (a.prog p).queue.filter fun g =>
    g.group.isNone && s.reaches g.cancel
  let b := forAll late (dropQueued p .passed) a
  let c := b.mapProg p fun x => { x with queue := x.queue.map s.eligible }
  act p c

/-- Whether a group's hold timer expires at the moment of an advance that reaches its cancel, and the
expiry is taken first (R70): either may be, so that the choice is free (assumption 29). The release then
finds the odometer advanced, and R72 removes each detached member as PASSED. -/
def State.expiryFirst (s : State) (slot : GroupSlot) (g : Group) : Bool :=
  decide (g.state = .armed) && decide (g.timer = some 0) && Config.holdExpiryFirst slot s.now

/-- One group takes an advance of the odometer (R66). -/
def groupAdvance (slot : GroupSlot) (s : State) : State :=
  match s.group slot with
  | none => s
  | some g =>
    if g.state = .released then s
    else if s.reaches g.cancel then
      if s.expiryFirst slot g then release slot .holdExpiry s
      else dissolveAndAct slot .passed (some (.groupEnded g.id .passed)) s
    else if g.state = .forming ∧ 100 * g.trigger ≤ s.route.odo then armGroup slot s
    else s

/-- The stop table takes an advance of the odometer (R101). -/
def stopsAdvance (s : State) : State :=
  startTest (forAll allStops
    (fun i t =>
      match t.stop i with
      | none => t
      | some r => if t.passPoint r ≤ t.route.odo then passTest i t else dueTest i t) s)

/-- An advance of the odometer handed to the players, the group table and the stop table. The order of
the readers is DESIGN CHOICE (assumption 7). -/
def handAdvance (s : State) : State :=
  stopsAdvance (forAll allSlots groupAdvance (forAll allProgs playerAdvance s))

/-! ## Route reset (R13) -/

/-- The suspended segments of a stack, top first. -/
def Programme.suspended (x : Programme) : List Segment :=
  x.stack.filterMap fun e =>
    match e with
    | .segment g => some g
    | .stop _ => none
    | .guide => none

/-- A stack without its segments. -/
def Programme.withoutSuspended (x : Programme) : Programme :=
  { x with stack := x.stack.filter fun e =>
      match e with
      | .segment _ => false
      | .stop _ => true
      | .guide => true }

/-- The staged segment withdrawn from the channel and removed with a reason. -/
def dropStaged (p : Prog) (reason : MissReason) (s : State) : State :=
  match (s.prog p).staged with
  | some g =>
    miss p g.seg reason
      (withdrawChan (chanOf p) g.tag (s.mapProg p fun x => { x with staged := none }))
  | none => s

/-- Every segment of a queue removed from head to tail with a reason. -/
def dropQueue (p : Prog) (reason : MissReason) (s : State) : State :=
  forAll (s.prog p).queue (dropQueued p reason) s

/-- A player takes a route reset (R59). -/
def playerRouteReset (p : Prog) (s : State) : State :=
  let a := dropStaged p .routeReset s
  let b := missAll p (a.prog p).suspended .routeReset (a.mapProg p Programme.withoutSuspended)
  dropQueue p .routeReset b

/-- Every group slot emptied (R73, R74). -/
def clearGroups (s : State) : State := { s with groups := .fill 16 none }

/-- A stop record as a route reset with start `start` dm leaves it (R111 steps 1 and 2). -/
def Stop.routeReset (start : Nat) (t : Stop) : Stop :=
  { t with
    state := if start < t.arrival then .pending else .passed, skip := none, latch := false }

/-- Every stop record as a route reset leaves it. -/
def resetStops (start : Nat) (s : State) : State :=
  forAll allStops (fun i t => t.setStop i ((t.stop i).map (Stop.routeReset start))) s

/-- The stop table takes a route reset (R111). -/
def stopsRouteReset (s : State) : State :=
  startTest (forAll allStops dueTest (resetStops s.route.start s))

/-- A route reset handed to the players, the group table and the stop table. -/
def handRouteReset (s : State) : State :=
  stopsRouteReset (clearGroups (forAll allProgs playerRouteReset s))

/-! ## The store's return (R35) -/

/-- The return to READY handed to the players P0 to P11, each with the group table's priming on it, and
then to the stop table. The order of these readers is DESIGN CHOICE (assumption 7). -/
def handStoreReady (s : State) : State := startTest (forAll allProgs act s)

/-! ## Emptying a programme (R41, R60) -/

/-- A removed stop item reported to the stop table as ended, where the rule makes a report. -/
def reportEnded (p : Prog) (report : Bool) (i : StopItem) (s : State) : State :=
  if report then reportCut p i.stop s else s

/-- The active item ends with the emptying of its programme (R41 step 1). -/
def dropActive (p : Prog) (reason : MissReason) (report : Bool) (s : State) : State :=
  let t := s.mapProg p fun x => { x with active := none }
  match (s.prog p).active with
  | some (.segment g _ _) => miss p g reason t
  | some (.stop i _ _ _) => reportEnded p report i t
  | some .guide => t
  | some .driver => t
  | none => t

/-- The stack emptied from top to bottom (R41 step 3). -/
def dropStack (p : Prog) (reason : MissReason) (report : Bool) (s : State) : State :=
  forAll (s.prog p).stack
    (fun e t =>
      match e with
      | .segment g => miss p g reason t
      | .stop i => reportEnded p report i t
      | .guide => t)
    (s.mapProg p fun x => { x with stack := [] })

/-- A player IDLE with a flushed channel and nothing produced (R41 step 5). -/
def idleProgramme (p : Prog) (s : State) : State :=
  (flushChan (chanOf p) s).mapProg p fun x =>
    { x with player := .idle, priming := none, voiced := .idle }

/-- A programme's places emptied in the order of R41 steps 1 to 5, its guide item with them. -/
def emptyProgramme (p : Prog) (reason : MissReason) (report : Bool) (s : State) : State :=
  let a := dropActive p reason report s
  let b := dropStaged p reason a
  let c := dropStack p reason report b
  let d := dropQueue p reason c
  let e := { d with voice := { d.voice with guide := Mask.erase d.voice.guide p } }
  idleProgramme p e

/-! ## Store failure at the players (R58) -/

/-- The clip items of a stack end; guide items stay (R58 step 3). -/
def failStack (p : Prog) (s : State) : State :=
  forAll (s.prog p).stack
    (fun e t =>
      match e with
      | .segment g => miss p g .store t
      | .stop i => reportCut p i.stop t
      | .guide => t)
    (s.mapProg p fun x => { x with stack := x.stack.filter fun e => decide (e = .guide) })

/-- A player takes the store's failure (R58); its channel has been flushed. -/
def playerStoreFailed (p : Prog) (s : State) : State :=
  let rest (t : State) : State := failStack p (dropStaged p .store t)
  let t := s.mapProg p fun x => { x with active := none }
  match (s.prog p).active with
  | some (.segment g _ _) => nextChoice p false (rest (miss p g .store t))
  | some (.stop i _ _ _) => nextChoice p false (rest (reportCut p i.stop t))
  | some .guide => rest s
  | some .driver => rest s
  | none => rest s

end Sys2Proof.Machine
end

