-- ==== Sys2Proof/Machine/Groups.lean ====
section
/-! DEFINITION. The group table's commands (Chapter 4): OPEN_GROUP, CLOSE_GROUP, GET_GROUP and the hold
timer. -/

namespace Sys2Proof

open Machine

/-- The first test of R62: every field in its range. -/
def GroupForm.inRange (g : GroupForm) : Bool :=
  decide (1 ≤ g.id ∧ g.id ≤ 255) && (someProgs g.declared).isSome && isDistance g.trigger &&
    isDistance? g.cancel && (g.cancel.all fun c => decide (g.trigger < c)) &&
    decide (g.hold ≤ 600) && isCue? g.cue

/-- The record OPEN_GROUP writes (R62). -/
def GroupForm.record (g : GroupForm) (declared : ProgMask) : Group :=
  { id := g.id, state := .forming, declared, enrolled := 0, ready := 0, trigger := g.trigger,
    cancel := g.cancel, hold := g.hold, timer := none, cue := g.cue, started := 0, detached := 0,
    order := 0 }

end Sys2Proof

namespace Sys2Proof.Machine

/-! ## OPEN_GROUP (R62) -/

/-- The RELEASED record with the earliest release order. -/
def State.oldestReleased (s : State) : Option GroupSlot :=
  allSlots.foldl
    (fun best g =>
      match s.group g with
      | some r =>
        if r.state = .released then
          match best.bind s.group with
          | some b => if r.order < b.order then some g else best
          | none => some g
        else best
      | none => best) none

/-- The slot OPEN_GROUP takes: the RELEASED record with the same ID, the lowest-numbered empty slot, or
the RELEASED record released first (R62). -/
def State.slotFor (s : State) (id : Nat) : Option GroupSlot :=
  match s.groupSlot id with
  | some g => some g
  | none =>
    match allSlots.find? fun g => (s.group g).isNone with
    | some g => some g
    | none => s.oldestReleased

/-- The tests of OPEN_GROUP in order (R62). -/
def State.openRefusal (s : State) (g : GroupForm) : Option RefuseCode :=
  firstFail [
    (g.inRange, .range),
    (decide (s.op.state = .run), .state),
    ((someProgs g.declared).all (fun m => decide (m &&& ~~~ s.enabledMask = 0)), .range),
    ((s.groupOf g.id).all (fun r => decide (r.state = .released)), .duplicate),
    ((s.slotFor g.id).isSome, .full),
    (!s.reaches g.cancel, .passed)]

/-- OPEN_GROUP (R62). -/
def takeOpenGroup (tag : Byte) (g : GroupForm) (s : State) : State :=
  match s.openRefusal g, s.slotFor g.id, someProgs g.declared with
  | some code, _, _ => refuse 0x28 tag code s
  | none, some slot, some declared =>
    let a := s.setGroup slot (some (g.record declared))
    let b := if 100 * g.trigger ≤ s.route.odo then armGroup slot a else a
    ack 0x28 tag (.opened (((b.group slot).map Group.state).getD .forming)) b
  | none, _, _ => refuse 0x28 tag .range s

/-! ## CLOSE_GROUP and GET_GROUP (R63, R64) -/

/-- CLOSE_GROUP (R63). -/
def takeCloseGroup (tag : Byte) (id : Nat) (s : State) : State :=
  if 1 ≤ id ∧ id ≤ 255 then
    match s.groupSlot id with
    | none => refuse 0x29 tag .unknownId s
    | some slot =>
      match s.group slot with
      | none => refuse 0x29 tag .unknownId s
      | some g =>
        let a := ack 0x29 tag (.closed g.state g.enrolled) s
        if g.state = .released then a.setGroup slot none
        else dissolveAndAct slot .cancelled none a
  else refuse 0x29 tag .range s

/-- The members of a group with their segment IDs and states (R64). -/
def State.membersOf (s : State) (g : Group) : List (Prog × Nat × SegState) :=
  (Mask.members g.enrolled).filterMap fun p =>
    ((s.prog p).queue.find? fun h => decide (h.group = some g.id)).map fun h => (p, h.id, h.state)

/-- What GET_GROUP reports (R64); a time left is given in whole 100 ms units (DESIGN CHOICE,
assumption 17). -/
def State.groupView (s : State) (g : Group) : GroupView :=
  { id := g.id, state := g.state, declared := g.declared, enrolled := g.enrolled, ready := g.ready,
    trigger := g.trigger, cancel := g.cancel, hold := g.hold, left := g.timer.getD 0 / 100,
    cue := g.cue, members := if g.state = .released then [] else s.membersOf g,
    outcome := if g.state = .released then some (g.started, g.detached) else none }

/-- GET_GROUP (R64). -/
def takeGetGroup (tag : Byte) (id : Nat) (s : State) : State :=
  if 1 ≤ id ∧ id ≤ 255 then
    match s.groupOf id with
    | some g => ack 0x2A tag (.group (s.groupView g)) s
    | none => refuse 0x2A tag .unknownId s
  else refuse 0x2A tag .range s

/-! ## The commands -/

/-- OPEN_GROUP at the link. -/
def execOpenGroup (tag : Byte) (g : GroupForm) (s : State) : Host.Outcome State Fault Refusal :=
  .next (viaLink (.openGroup tag g) (takeOpenGroup tag g s) s)

/-- CLOSE_GROUP at the link. -/
def execCloseGroup (tag : Byte) (id : Nat) (s : State) : Host.Outcome State Fault Refusal :=
  .next (viaLink (.closeGroup tag id) (takeCloseGroup tag id s) s)

/-- GET_GROUP at the link. -/
def execGetGroup (tag : Byte) (id : Nat) (s : State) : Host.Outcome State Fault Refusal :=
  .next (viaLink (.getGroup tag id) (takeGetGroup tag id s) s)

/-- A hold timer expires; it runs in ARMED alone (R70). -/
def execHoldTimerExpiry (slot : GroupSlot) (s : State) : Host.Outcome State Fault Refusal :=
  .next (
    match s.group slot with
    | some g =>
      if g.state = .armed ∧ g.timer.isSome then release slot .holdExpiry s else s
    | none => s)

end Sys2Proof.Machine
end

