-- ==== Sys2Proof/Machine/SeatOps.lean ====
section
/-! DEFINITION. The seat loop controller's and the level unit's shared operations (7.8, Chapter 8):
recomputing gain codes, pending updates, rounds, the seat-loop messages, and a node's loss and
return. -/

namespace Sys2Proof.Machine

/-! ## Gain codes and pending updates (R128, R136) -/

/-- Whether a node is declared and ONLINE. -/
def State.nodeUp (s : State) (n : Node) : Bool :=
  (s.node n).declared && decide ((s.node n).state = .online)

/-- A pending update for a jack of a declared ONLINE node, with its language and current gain code read
now and carried by no poll; it replaces one already pending (R136). -/
def giveUpdate (j : Jack) (s : State) : State :=
  if s.nodeUp (nodeOf j) then
    s.setJack j { s.jack j with
      update := some { slot := (s.jack j).language, code := s.code j, carriedBy := none } }
  else s

/-- A jack's code computed again; a changed code becomes current and is handed on (R128). -/
def recompute (j : Jack) (s : State) : State :=
  if s.gainCode j = s.code j then s
  else giveUpdate j { s with mixer := { s.mixer with codes := s.mixer.codes.write j (s.gainCode j) } }

/-- A jack record changed by an event: its code computed again, and an update where its language has
changed (R128, R136). -/
def changeJack (j : Jack) (x : JackRec) (s : State) : State :=
  let t := recompute j (s.setJack j x)
  if x.language = (s.jack j).language then t else giveUpdate j t

/-- A JACK_CHANGE notice for a jack as it stands (R141). -/
def jackChange (j : Jack) (s : State) : State :=
  notify (.jackChange j (s.jack j).state (s.jack j).language (s.jack j).volume (s.code j)) s

/-- Every jack's code computed again. -/
def recomputeAll (s : State) : State := forAll allJacks recompute s

/-! ## Rounds (R137) -/

/-- Whether the current round includes a node. -/
def State.included (s : State) (n : Node) : Bool :=
  (s.node n).declared && (decide ((s.node n).state = .online) || decide (s.loop.round = 0))

/-- The next node of the round from an address on. -/
def State.nextNode (s : State) (a : Nat) : Option Node :=
  allNodes.find? fun n => decide (a ≤ n.val) && s.included n

/-- Whether any node is declared. -/
def State.anyDeclared (s : State) : Bool := allNodes.any fun n => (s.node n).declared

/-- The next round begins: the round number advances, 0 to 7 and again 0. -/
def beginRound (s : State) : State :=
  { s with loop := { s.loop with round := (s.loop.round + 1) % 8, next := some 0 } }

/-- The round in progress ends. -/
def endRound (s : State) : State := { s with loop := { s.loop with next := none } }

/-- Rounds begin, one that finds no node ending at once, until one finds a node. -/
def beginRounds : Nat → State → State
  | 0, s => s
  | fuel + 1, s =>
    let t := beginRound s
    if (t.nextNode 0).isSome then t else beginRounds fuel (endRound t)

/-- One round begins; a round that finds no node ends at once. -/
def beginOne (s : State) : State :=
  let t := beginRound s
  if (t.nextNode 0).isSome then t else endRound t

/-- What the rounds do when an event may have left the current one without a node to poll, by the
operating state (R137). In RUN a round of number 0 includes every declared node, so one of 8 rounds
finds one. In LAYOVER a round that has sent its last poll has ended, so that a node declared at a higher
address waits for the next round (R132), DESIGN CHOICE (assumption 35). -/
def settleRound (s : State) : State :=
  let busy := match s.loop.next with
    | some a => (s.nextNode a).isSome
    | none => false
  if busy then s
  else
    match s.op.state with
    | .run => if s.anyDeclared then beginRounds 8 (endRound s) else endRound s
    | .layover =>
      if s.loop.due && s.loop.next.isSome then
        beginOne { s with loop := { s.loop with next := none, due := false } }
      else endRound s
    | .dormant => endRound s

/-- A round of number `r` begun at once and the 1 s round timer loaded (R145). -/
def startRounds (r : Nat) (s : State) : State :=
  settleRound { s with loop := { s.loop with
    round := r, next := some 0, due := false, roundTimer := some 1000 } }

/-! ## Seat-loop messages (12.5, R180) -/

/-- The sum of a message's bytes, modulo 256. -/
def sumBytes (bs : List Byte) : Byte := bs.foldl (· + ·) 0

/-- The check byte that brings a message's sum to 0 modulo 256. -/
def checkByte (bs : List Byte) : Byte := 0 - sumBytes bs

/-- A gain code's byte: 0 to 120, or 255 for MUTE (12.5). -/
def GainCode.byte : GainCode → Byte
  | .mute => 255
  | .level n => byteOf n

/-- The jacks of a node whose pending updates no poll carries, in ascending position. -/
def State.freeUpdates (s : State) (n : Node) : List Jack :=
  (jacksOf n).filter fun j => ((s.jack j).update.map fun u => u.carriedBy.isNone).getD false

/-- An update's three bytes in a poll. -/
def updateBytes (s : State) (j : Jack) : List Byte :=
  match (s.jack j).update with
  | some u => [byteOf (positionOf j), byteOf u.slot.val, u.code.byte]
  | none => []

/-- The poll message to a node: address, update count, updates, check (12.5). -/
def pollMessage (s : State) (n : Node) : List Byte :=
  let body := [byteOf n.val, byteOf (s.freeUpdates n).length] ++
    (s.freeUpdates n).flatMap (updateBytes s)
  body ++ [checkByte body]

/-- What a reply from a seat box says. -/
structure BoxReply where
  node   : Node
  senses : List Sense
  events : List (Fin 4 × Button)
  deriving DecidableEq, Repr

/-- One button event byte: bits 0 and 1 the jack position, bits 4 and 5 the button, the others 0. -/
def eventOf (b : Byte) : Option (Fin 4 × Button) :=
  if b &&& 0xCC = 0 then
    (buttonOf (b.toNat / 16 % 4)).map fun k => (⟨b.toNat % 4, by omega⟩, k)
  else none

/-- The reply a message from a box carries; `none` for a malformed one (R180). A message whose length is
not the one its event count gives is malformed too (DEDUCED, assumption 15). -/
def parseReply (bytes : List Byte) : Option BoxReply :=
  match bytes with
  | a :: se :: e :: rest =>
    if sumBytes bytes = 0 ∧ e.toNat ≤ 4 ∧ rest.length = e.toNat + 1 then
      match indexOf 16 a.toNat,
        ([0, 1, 2, 3] : List Nat).mapM (fun p => senseOf (se.toNat / 4 ^ p % 4)),
        (rest.take e.toNat).mapM eventOf with
      | some node, some senses, some events => some { node, senses, events }
      | _, _, _ => none
    else none
  | _ => none

/-! ## Ends of polls -/

/-- The outstanding poll in a slot. -/
def Loop.pollIn (l : Loop) (k : PollSlot) : Option Poll := l.polls.find? fun p => decide (p.slot = k)

/-- A free poll slot (R137). With both free it is A, DESIGN CHOICE (assumption 32). -/
def Loop.freeSlot (l : Loop) : Option PollSlot :=
  if (l.pollIn .a).isNone then some .a else if (l.pollIn .b).isNone then some .b else none

/-- A slot freed. -/
def dropPoll (k : PollSlot) (s : State) : State :=
  { s with loop := { s.loop with polls := s.loop.polls.filter fun p => decide (p.slot ≠ k) } }

/-- The updates of a node's jacks that a slot's poll carries, changed by `f`. -/
def mapCarried (n : Node) (k : PollSlot) (f : JackRec → Update → JackRec) (s : State) : State :=
  forAll (jacksOf n)
    (fun j t =>
      match (t.jack j).update with
      | some u => if u.carriedBy = some k then t.setJack j (f (t.jack j) u) else t
      | none => t) s

/-- The updates a poll carried stay pending, carried by no poll (R139). -/
def uncarry (n : Node) (k : PollSlot) (s : State) : State :=
  mapCarried n k (fun r u => { r with update := some { u with carriedBy := none } }) s

/-- The updates a matched poll carried are confirmed (R138 step 2). -/
def confirm (n : Node) (k : PollSlot) (s : State) : State :=
  mapCarried n k (fun r u => { r with update := none, confirmed := some (u.slot, u.code) }) s

/-- Every outstanding poll abandoned without a miss; its updates stay pending, carried by no poll
(R145). -/
def abandonPolls (s : State) : State :=
  let t := forAll s.loop.polls (fun p t => uncarry p.node p.slot t) s
  { t with loop := { t.loop with polls := [] } }

/-- A jack that has no debounced reading any more: UNKNOWN with no sense seen, and without update or
acknowledged values; its settings and its absent-since time are kept (R132, R139). -/
def JackRec.forget (r : JackRec) : JackRec :=
  { r with state := .unknown, sense := none, update := none, confirmed := none }

/-- A node goes OFFLINE (R139). -/
def nodeLost (n : Node) (s : State) : State :=
  let t := s.setNode n { s.node n with state := .offline }
  let u := forAll (jacksOf n) (fun j t => recompute j (t.setJack j (t.jack j).forget)) t
  notify (.nodeLost n) u

/-- A node returns from OFFLINE (R140). -/
def nodeBack (n : Node) (s : State) : State :=
  let t := s.setNode n { s.node n with state := .online, misses := 0 }
  notify (.nodeBack n) (forAll (jacksOf n) giveUpdate t)

/-! ## Senses and buttons (R141 to R143) -/

/-- The state a sense indicates. -/
def Sense.state : Sense → JackState
  | .headset => .present
  | .opened => .absent
  | .short => .fault

/-- Whether a jack that becomes PRESENT takes the defaults (R142). -/
def JackRec.takesDefaults (r : JackRec) (now : Nat) : Bool :=
  !r.assigned || (r.absentAt.map fun t => decide (t + 120000 ≤ now)).getD false

/-- A jack record after its change to a new state (R141, R142). -/
def State.arrived (s : State) (j : Jack) (st : JackState) : JackRec :=
  let r := s.jack j
  match st with
  | .present =>
    if r.takesDefaults s.now then
      { r with
        state := .present, absentAt := none, assigned := true,
        language := s.deckDefault (s.node (nodeOf j)).deck, volume := s.setup.stepDefault }
    else { r with state := .present, absentAt := none }
  | .absent => { r with state := .absent, absentAt := some (r.absentAt.getD s.now) }
  | .fault => { r with state := .fault }
  | .unknown => r

/-- One sense taken by the debounce rule (R141). -/
def takeSense (j : Jack) (x : Sense) (s : State) : State :=
  let seen := s.setJack j { s.jack j with sense := some x }
  if (s.jack j).sense = some x ∧ x.state ≠ (s.jack j).state then
    jackChange j (changeJack j (seen.arrived j x.state) seen)
  else seen

/-- The language LANG_NEXT gives: the lowest-numbered enabled programme above the present one, or else
the lowest-numbered enabled programme (R143). -/
def State.nextLanguage (s : State) (p : Prog) : Prog :=
  match allProgs.find? fun q => decide (p.val < q.val) && (s.prog q).enabled with
  | some q => q
  | none => (allProgs.find? fun q => (s.prog q).enabled).getD p

/-- One button event (R143). -/
def takeButton (j : Jack) (b : Button) (s : State) : State :=
  let r := s.jack j
  if s.op.state = .run ∧ r.state = .present then
    let x : JackRec := match b with
      | .langNext => { r with language := s.nextLanguage r.language }
      | .volUp => { r with volume := if r.volume < 15 then r.volume + 1 else r.volume }
      | .volDown => { r with volume := r.volume - 1 }
    if x = r then s else jackChange j (changeJack j x s)
  else s

end Sys2Proof.Machine
end

