-- ==== Sys2Proof/Machine/Payloads.lean ====
section
/-! DEFINITION. The payloads of the frames the part sends (R178, R179): the fields of each ACK and notice
in the order its rule names them, and their bytes. A field that Chapter 12 encodes (a mask, a yes/no
field, a clip number, a distance, a light cue, a setup value) or lays out in a message of its own kind (a
segment ID, a programme, a level, a speed, a sentence mark, a stop's pair, a jack update) has those bytes;
the bytes of any other field are open (assumption 18). -/

namespace Sys2Proof.Machine

/-- A field of a payload. -/
inductive Field where
  /-- One unsigned byte: a number below 256, or a code that 12.3 or 12.5 lists. -/
  | byte (n : Nat)
  /-- A level or trim in hdB, one two's complement byte. -/
  | level (x : Int)
  /-- Two bytes. -/
  | word (n : Nat)
  /-- The value of a setup item, four two's complement bytes, wherever it is reported. -/
  | setup (v : Int)
  | yesNo (b : Bool)
  | progs (m : ProgMask)
  | clip (n : Option Nat)
  | distance (dm : Option Nat)
  | cue (n : Option Nat)
  /-- A field that Chapter 12 lays out nowhere. -/
  | unlaid
  deriving DecidableEq, Repr

/-- A field's bytes (R178); `unlaid` gives those of a field that has no layout. -/
def Field.bytes (unlaid : List Byte) : Field → List Byte
  | .byte n => [byteOf n]
  | .level x => [bytesS1 x]
  | .word n => bytes2 n
  | .setup v => bytesS4 v
  | .yesNo b => [if b then 1 else 0]
  | .progs m => bytes2 m.toNat
  | .clip n => bytes2 (ofOptional 0xFFFF n)
  | .distance dm => bytes4 (ofOptional 0xFFFFFFFF dm)
  | .cue n => [byteOf (ofOptional 0xFF n)]
  | .unlaid => unlaid

/-- A field that may be absent; it is unlaid where no value is reserved for its absence. -/
def Field.opt {α : Type} (field : α → Field) (x : Option α) : Field := (x.map field).getD .unlaid

/-- The bytes of a list of fields; `unlaid` gives those of the unlaid fields by their places. -/
def fieldBytes (unlaid : Nat → List Byte) (fields : List Field) : List Byte :=
  fields.zipIdx.flatMap fun f => f.1.bytes (unlaid f.2)

/-! ## Codes (12.3) -/

/-- An operating state's code. -/
def OpState.byte : OpState → Nat
  | .run => 0
  | .layover => 1
  | .dormant => 2

/-- A clip kind's code. -/
def ClipKind.byte : ClipKind → Nat
  | .speech => 0
  | .chime => 1
  | .bed => 2

/-- A feed filter's code. -/
def Filter.byte : Filter → Nat
  | .all => 0
  | .guideUp => 1
  | .announce => 2

/-- A cue player's code. -/
def cuePlayerByte : CuePlayer → Nat
  | .stop => 0
  | .scene => 1

/-- A deck's code. -/
def Deck.byte : Deck → Nat
  | .lower => 0
  | .upper => 1

/-- A gain code as a field: 0 to 120, or 255 for MUTE (12.5). -/
def GainCode.field (c : GainCode) : Field := .byte c.byte.toNat

/-! ## ACKs -/

/-- A feed's fields in GET_MIXER's ACK (R129). -/
def FeedView.fields (v : FeedView) : List Field :=
  [.byte v.settings.source.val, .byte v.settings.filter.byte, .level v.settings.level,
    .yesNo v.settings.bed, .level v.gain, .yesNo v.held]

/-- The fields of a stop's pair of a programme and its language clip (12.3). -/
def pairFields (c : Prog × Nat) : List Field := [.byte c.1.val, .clip (some c.2)]

/-- The fields of a jack's slot and gain code, in a pending update and as acknowledged (12.5). -/
def slotFields (slot : Prog) (code : GainCode) : List Field := [.byte slot.val, code.field]

/-- The active item's fields in GET_PROGRAMME's ACK (R42): its kind, and what the kind adds. -/
def ItemView.fields : ItemView → List Field
  | .none => [.unlaid]
  | .segment id _ _ => [.unlaid, .word id, .unlaid, .unlaid]
  | .stop i _ _ => [.unlaid, .byte i.val, .unlaid, .unlaid]
  | .guide => [.unlaid]
  | .driver => [.unlaid]

/-- A stack entry's fields in GET_PROGRAMME's ACK (R42): a segment, of level 0, has its ID, and a stop
item, of level 2, its stop index. -/
def EntryView.fields (v : EntryView) : List Field :=
  [.unlaid, .unlaid, Field.opt (if v.level = 0 then .word else .byte) v.object, .unlaid]

/-- A programme's fields in GET_PROGRAMME's ACK (R42). -/
def ProgrammeView.fields (v : ProgrammeView) : List Field :=
  [.yesNo v.enabled, .byte v.language, .level v.trim, .yesNo v.bed, .unlaid, .unlaid] ++
    v.active.fields ++ Field.opt .word v.staged :: v.stack.flatMap EntryView.fields ++
    v.queue.flatMap fun g => [.word g.1, .unlaid]

/-- A stop's fields in GET_STOP's ACK (R100). -/
def StopView.fields (v : StopView) : List Field :=
  [.byte v.index.val, .byte v.record.id, .distance (some v.record.announce),
    .distance (some v.record.arrival), .yesNo v.record.requestOnly, .clip v.record.chime] ++
  v.record.clips.flatMap pairFields ++
  [.cue v.record.cue, .unlaid, .unlaid, .unlaid, .distance (some v.passDm)] ++
  match v.masks with
  | some (participating, outstanding, heard, cut) =>
    [.progs participating, .progs outstanding, .progs heard, .progs cut]
  | none => []

/-- A group's fields in GET_GROUP's ACK (R64). -/
def GroupView.fields (v : GroupView) : List Field :=
  [.byte v.id, .unlaid, .progs v.declared, .progs v.enrolled, .progs v.ready,
    .distance (some v.trigger), .distance v.cancel, .word v.hold, .unlaid, .cue v.cue] ++
  (v.members.flatMap fun m => [.word m.2.1, .unlaid]) ++
  match v.outcome with
  | some (started, detached) => [.progs started, .progs detached]
  | none => []

/-- The mixer's fields in GET_MIXER's ACK (R129). -/
def MixerView.fields (v : MixerView) : List Field :=
  [.unlaid, .clip v.bedClip, .level v.bedGain] ++ List.replicate (v.ducks.length + 2) .unlaid ++
    v.upper.fields ++ v.lower.fields ++
    [.unlaid, .unlaid, .setup v.duckDepth, .setup v.liftSlope, .setup v.liftMax, .setup v.ceiling]

/-- A jack's fields and its node's in GET_JACK's ACK (R144). -/
def JackView.fields (v : JackView) : List Field :=
  [.unlaid, .unlaid, .byte v.record.language.val, .byte v.record.volume, .yesNo v.record.assigned,
      .unlaid] ++
    (match v.record.update with
      | some u => slotFields u.slot u.code ++ [.unlaid]
      | none => [.unlaid]) ++
    (match v.record.confirmed with
      | some c => slotFields c.1 c.2
      | none => [.unlaid]) ++
    [v.code.field, .yesNo v.node.declared, .byte v.node.deck.byte, .unlaid, .unlaid]

/-- A zone's fields in GET_ZONES's ACK (R158). -/
def ZoneView.fields (v : ZoneView) : List Field :=
  [.byte v.base, .byte v.onLevel, .yesNo v.nightOnly, Field.opt (fun c => .byte (cuePlayerByte c)) v.owner,
    Field.opt .byte v.overlay, .byte v.target, .byte v.output]

/-- A cue player's fields in GET_ZONES's ACK (R158). -/
def runFields : Option CueRun → List Field
  | some r => [.unlaid, .cue (some r.cue.val), .unlaid, .unlaid, .unlaid]
  | none => [.unlaid]

/-- The fields of GET_ZONES's ACK (R158): zones, cue players, lamp supply, day state. -/
def ZonesView.fields (v : ZonesView) : List Field :=
  v.zones.flatMap ZoneView.fields ++ runFields v.stopRun ++ runFields v.sceneRun ++
    List.replicate 5 .unlaid

/-- The fields of an ACK's result data. -/
def Ack.fields : Ack → List Field
  | .empty => []
  | .hello v => List.replicate (v.capacities.length + 3) .unlaid ++ [.byte v.rate]
  | .status v => .byte v.op.byte :: List.replicate 11 .unlaid
  | .applied _ => [.unlaid]
  | .setupValues vs => vs.map .setup
  | .rateBefore code => [.byte code]
  | .stateBefore st => [.byte st.byte]
  | .stateChange before after => [.byte before.byte, .byte after.byte]
  | .position _ clamped odo est => [.unlaid, .yesNo clamped, .distance (some odo), .distance (some est)]
  | .route v =>
    [.unlaid, .distance (some v.odoDm), .distance (some v.estDm), .word v.speed, .word v.inForce,
      .distance (some v.start), .unlaid]
  | .defined _ => [.unlaid]
  | .clip n r _ =>
    [.clip (some n), .byte r.kind.byte, .word r.first, .word r.count] ++ r.marks.map .word ++ [.unlaid]
  | .storeBefore _ => [.unlaid]
  | .programme v => v.fields
  | .queued _ _ => [.unlaid, .unlaid]
  | .cancelled _ => [.unlaid]
  | .opened _ => [.unlaid]
  | .closed _ enrolled => [.unlaid, .progs enrolled]
  | .group v => v.fields
  | .guideOn mask live => [.progs mask, .progs live]
  | .guideOff removed mask => [.progs removed, .progs mask]
  | .loaded _ _ => [.unlaid, .unlaid]
  | .cleared _ => [.unlaid]
  | .requested (some (i, set)) => [.byte i.val, .yesNo set]
  | .requested none => [.unlaid]
  | .stop v => v.fields
  | .bedBefore _ => [.unlaid]
  | .gainBefore gain => [.level gain]
  | .mixer v => v.fields
  | .node _ => [.unlaid]
  | .jackSet _ code => [.unlaid, code.field]
  | .jack v => v.fields
  | .bases levels => levels.map .byte
  | .cueBefore cue => [.cue (cue.map Fin.val)]
  | .supplyBefore _ => [.unlaid]
  | .zones v => v.fields

/-- A refusal's code byte (R179). -/
def RefuseCode.byte : RefuseCode → Byte
  | .badKind => 0x01
  | .badLength => 0x02
  | .range => 0x03
  | .state => 0x04
  | .full => 0x05
  | .duplicate => 0x06
  | .unknownId => 0x07
  | .inUse => 0x08
  | .notMember => 0x09
  | .noMic => 0x0A
  | .noStore => 0x0B
  | .order => 0x0C
  | .passed => 0x0D
  | .last => 0x0E

/-- A reply's payload (R179). -/
def Answer.payload : Answer → List Byte
  | .ack data => 0x00 :: (fieldBytes (Config.ackField data) data.fields).take 199
  | .refuse code => [code.byte]
  | .refuseItem item => [RefuseCode.range.byte, byteOf item]

/-! ## Notices -/

/-- The fields of a notice. -/
def Notice.fields : Notice → List Field
  | .routeState _ odo => [.unlaid, .distance (some odo)]
  | .jump old new => [.distance (some old), .distance (some new)]
  | .storeFault _ _ _ block => [.unlaid, .unlaid, .unlaid, .word block]
  | .underrun p _ => [.byte p.val, .unlaid]
  | .segmentStarted id p _ _ resumed => [.word id, .byte p.val, .unlaid, .unlaid, .yesNo resumed]
  | .segmentDone id p => [.word id, .byte p.val]
  | .segmentMissed id p _ _ => [.word id, .byte p.val, .unlaid, .unlaid]
  | .groupReleased id _ declared started detached =>
    [.byte id, .unlaid, .progs declared, .progs started, .progs detached]
  | .groupEnded id _ => [.byte id, .unlaid]
  | .guideLost mask => [.progs mask]
  | .paStuck => []
  | .stopState f =>
    [.byte f.index.val, .byte f.id, .unlaid, .unlaid, .unlaid, .unlaid] ++
      [f.participating, f.heard, f.cut].map (Field.opt .progs)
  | .bedState _ clip _ => [.unlaid, .clip clip, .unlaid]
  | .jackChange j _ language volume code =>
    [.byte j.val, .unlaid, .byte language.val, .byte volume, code.field]
  | .nodeLost n => [.byte n.val]
  | .nodeBack n => [.byte n.val]
  | .lampFault => []
  | .daylight _ => [.unlaid]
  | .opState st _ => [.byte st.byte, .unlaid]
  | .linkError _ _ frame =>
    [.unlaid, .unlaid] ++
      match frame with
      | some (kind, tag) => [.byte kind.toNat, .byte tag.toNat]
      | none => [.unlaid, .unlaid]

/-- A notice's payload, with the lost flag it carries (R174, R179). -/
def Notice.payload (n : Notice) (lost : Bool) : List Byte :=
  (if lost then 1 else 0) :: (fieldBytes (Config.noticeField n) n.fields).take 199

/-! ## Frames -/

/-- The bytes of a host frame (R168, 12.2). -/
def frameBytes (kind tag : Byte) (payload : List Byte) : List Byte :=
  let body := byteOf payload.length :: kind :: tag :: payload
  0x5A :: body ++ [0 - body.foldl (· + ·) 0]

/-- The bytes the transmitter sends for a frame (R179). -/
def TxFrame.bytes : TxFrame → List Byte
  | .reply r => frameBytes r.kind r.tag r.answer.payload
  | .notice n lost => frameBytes (byteOf n.code) 0 (n.payload lost)

end Sys2Proof.Machine
end

