-- ==== Sys2Proof/Machine/Lights.lean ====
section
/-! DEFINITION. The lighting unit's commands (Chapter 9): ZONES, ZONE_SET, DEFINE_CUE, RUN_CUE,
STOP_CUE, LIGHTS_CLEAR_FAULT, GET_ZONES, its clocks and timers, the ambient sensor and the LAMP_FAULT
line. -/

namespace Sys2Proof.Machine

/-! ## Base levels (R149) -/

/-- The base level that a ZONES operation gives a zone (R149). -/
def ZoneRec.newBase (z : ZoneRec) (op : ZoneOp) (level : Nat) : Nat :=
  match op with
  | .load => level
  | .set => z.onLevel
  | .clear => 0
  | .toggle => if z.base = 0 then z.onLevel else 0

/-- The bases of a mask's zones written. -/
def writeBases (op : ZoneOp) (m : ZoneMask) (level : Nat) (s : State) : State :=
  mapZones (fun i z => if Mask.has m i then { z with base := z.newBase op level } else z) s

/-- The eight base levels. -/
def State.bases (s : State) : List Nat := s.zones.toList.map ZoneRec.base

/-- ZONES (R149). -/
def takeZonesRequest (tag : Byte) (op mask level fade : Nat) (s : State) : State :=
  match zoneOpOf op, someZones mask with
  | some o, some m =>
    let a := writeBases o m level s
    retarget (fun _ => min 10000 fade) (ack 0x50 tag (.bases a.bases) a)
  | _, _ => refuse 0x50 tag .range s

/-- ZONE_SET (R149). -/
def takeZoneSet (tag : Byte) (zone onLevel night : Nat) (s : State) : State :=
  match indexOf 8 zone, yesNo night with
  | some z, some n =>
    retargetSlow (ack 0x51 tag .empty
      (s.setZone z { s.zone z with onLevel := onLevel, nightOnly := n }))
  | _, _ => refuse 0x51 tag .range s

/-! ## Cues (R150, R153) -/

/-- Whether a cue player is running a cue. -/
def State.runningCue (s : State) (i : CueIx) : Bool :=
  (s.lamps.stopRun.any fun r => decide (r.cue = i)) ||
    (s.lamps.sceneRun.any fun r => decide (r.cue = i))

/-- A step as DEFINE_CUE writes it; fades and holds above 10,000 ms are taken as 10,000 (R150). -/
def cueStepOf (c : CueStepForm) : CueStep :=
  { mask := BitVec.ofNat 8 c.mask, level := c.level, fade := min 10000 c.fade,
    hold := min 10000 c.hold }

/-- The tests of DEFINE_CUE in order (R150). -/
def State.cueRefusal (s : State) (cue passes : Nat) (steps : List CueStepForm) : Option RefuseCode :=
  firstFail [
    ((indexOf 32 cue).isSome && decide (passes ≤ 15) &&
      decide (1 ≤ steps.length ∧ steps.length ≤ 8) &&
      steps.all (fun c => (someZones c.mask).isSome), .range),
    ((indexOf 32 cue).all (fun i => !s.runningCue i), .inUse)]

/-- DEFINE_CUE (R150). -/
def takeDefineCue (tag : Byte) (cue passes : Nat) (steps : List CueStepForm) (s : State) : State :=
  match s.cueRefusal cue passes steps, indexOf 32 cue with
  | some code, _ => refuse 0x52 tag code s
  | none, some i =>
    ack 0x52 tag (.defined (if (s.cues.read i).isSome then .replaced else .new))
      { s with cues := s.cues.write i (some { passes := passes, steps := steps.map cueStepOf }) }
  | none, none => refuse 0x52 tag .range s

/-- The tests of RUN_CUE in order (R153). -/
def State.runCueRefusal (s : State) (cue : Nat) : Option RefuseCode :=
  firstFail [
    ((indexOf 32 cue).isSome, .range),
    (decide (s.op.state = .run), .state),
    (((indexOf 32 cue).bind s.cues.read).isSome, .unknownId)]

/-- RUN_CUE (R153). -/
def takeRunCue (tag : Byte) (cue : Nat) (s : State) : State :=
  match s.runCueRefusal cue with
  | some code => refuse 0x53 tag code s
  | none => cueStart .scene cue (ack 0x53 tag (.cueBefore (s.lamps.sceneRun.map CueRun.cue)) s)

/-- STOP_CUE (R153). -/
def takeStopCue (tag : Byte) (player : Nat) (s : State) : State :=
  match cuePlayerOf player with
  | some p =>
    let a := ack 0x54 tag (.cueBefore ((s.lamps.running p).map CueRun.cue)) s
    if (s.lamps.running p).isSome then endCue p a else a
  | none => refuse 0x54 tag .range s

/-! ## The supply and reading (R155, R158) -/

/-- LIGHTS_CLEAR_FAULT (R155). -/
def takeLightsClearFault (tag : Byte) (s : State) : State :=
  if s.lamps.faultLine then refuse 0x55 tag .state s
  else
    let a := ack 0x55 tag (.supplyBefore s.lamps.supply) s
    if s.lamps.supply = .faulted then
      supplyFollow { a with lamps := { a.lamps with supply := .off } }
    else a

/-- A zone as GET_ZONES reports it. -/
def ZoneRec.view (z : ZoneRec) : ZoneView :=
  { base := z.base, onLevel := z.onLevel, nightOnly := z.nightOnly, owner := z.owner,
    overlay := z.overlay, target := z.target, output := z.output }

/-- What GET_ZONES reports (R158). -/
def State.zonesView (s : State) : ZonesView :=
  { zones := s.zones.toList.map ZoneRec.view, stopRun := s.lamps.stopRun,
    sceneRun := s.lamps.sceneRun, supply := s.lamps.supply, faultLine := s.lamps.faultLine,
    day := s.lamps.day, run := s.lamps.run, ambient := s.lamps.ambient }

/-- GET_ZONES (R158). -/
def takeGetZones (tag : Byte) (s : State) : State := ack 0x56 tag (.zones s.zonesView) s

/-! ## Timers and lines -/

/-- The next step of a cue, its next pass, or its end (R152). -/
def nextStep (p : CuePlayer) (r : CueRun) (s : State) : State :=
  match s.cues.read r.cue with
  | none => endCue p s
  | some c =>
    let go (k pass : Nat) : State :=
      match c.steps[k - 1]? with
      | some step =>
        let t := takeStep p r.cue k pass step s
        retarget (stepFade p step t) t
      | none => endCue p s
    if r.step < c.steps.length then go (r.step + 1) r.pass
    else if c.passes = 0 ∨ r.pass < c.passes then go 1 (r.pass + 1)
    else endCue p s

/-- The run count and day state after a reading (R156): the count, and whether the state changes. -/
def State.runAfter (s : State) (reading : Nat) : Nat × Bool :=
  let past := match s.lamps.day with
    | .day => decide (reading < s.setup.dark)
    | .night => decide (s.setup.light < reading)
  if past then if 9 ≤ s.lamps.run then (0, true) else (s.lamps.run + 1, false) else (0, false)

/-- The other day state. -/
def DayState.other : DayState → DayState
  | .day => .night
  | .night => .day

/-- A sample of the ambient sensor (R156). -/
def sampleAmbient (reading : Nat) (s : State) : State :=
  let r := s.runAfter reading
  let a := { s with lamps := { s.lamps with ambient := reading, run := r.1 } }
  if r.2 then
    retargetSlow (notify (.daylight s.lamps.day.other)
      { a with lamps := { a.lamps with day := s.lamps.day.other } })
  else a

/-- The supply becomes FAULTED with its notice (R155). -/
def faultSupply (s : State) : State :=
  notify .lampFault (mapZones (fun _ z => z.hold)
    { s with lamps := { s.lamps with supply := .faulted, settle := none, off := none } })

/-- The LAMP_FAULT line goes active (R155). -/
def lampFaultActive (s : State) : State :=
  let a := { s with lamps := { s.lamps with faultLine := true } }
  if s.lamps.supply = .faulted then a else faultSupply a

/-! ## The commands -/

/-- ZONES at the link. -/
def execZones (tag : Byte) (op mask level fade : Nat) (s : State) : Host.Outcome State Fault Refusal :=
  .next (viaLink (.zones tag op mask level fade) (takeZonesRequest tag op mask level fade s) s)

/-- ZONE_SET at the link. -/
def execZoneSet (tag : Byte) (zone onLevel night : Nat) (s : State) :
    Host.Outcome State Fault Refusal :=
  .next (viaLink (.zoneSet tag zone onLevel night) (takeZoneSet tag zone onLevel night s) s)

/-- DEFINE_CUE at the link. -/
def execDefineCue (tag : Byte) (cue passes : Nat) (steps : List CueStepForm) (s : State) :
    Host.Outcome State Fault Refusal :=
  .next (viaLink (.defineCue tag cue passes steps) (takeDefineCue tag cue passes steps s) s)

/-- RUN_CUE at the link. -/
def execRunCue (tag : Byte) (cue : Nat) (s : State) : Host.Outcome State Fault Refusal :=
  .next (viaLink (.runCue tag cue) (takeRunCue tag cue s) s)

/-- STOP_CUE at the link. -/
def execStopCue (tag : Byte) (player : Nat) (s : State) : Host.Outcome State Fault Refusal :=
  .next (viaLink (.stopCue tag player) (takeStopCue tag player s) s)

/-- LIGHTS_CLEAR_FAULT at the link. -/
def execLightsClearFault (tag : Byte) (s : State) : Host.Outcome State Fault Refusal :=
  .next (viaLink (.lightsClearFault tag) (takeLightsClearFault tag s) s)

/-- GET_ZONES at the link. -/
def execGetZones (tag : Byte) (s : State) : Host.Outcome State Fault Refusal :=
  .next (viaLink (.getZones tag) (takeGetZones tag s) s)

/-- 1 ms of the fade clock; no fade runs while the supply is not ON (R148). -/
def execFadeClockTick (s : State) : Host.Outcome State Fault Refusal :=
  .next (
    if s.lamps.supply = .on then offTimer (mapZones (fun _ z => z.tick) s) else s)

/-- A cue player's step timer expires; it runs in RUNNING alone (R152). -/
def execStepTimerExpiry (player : CuePlayer) (s : State) : Host.Outcome State Fault Refusal :=
  .next (
    match s.lamps.running player with
    | some r => nextStep player r s
    | none => s)

/-- The lamp supply's settle timer expires; it runs in SETTLING alone (R154). -/
def execLampSettleExpiry (s : State) : Host.Outcome State Fault Refusal :=
  .next (
    if s.lamps.supply = .settling ∧ s.lamps.settle.isSome then offTimer (supplyOn s) else s)

/-- The off timer expires; it runs in ON while every zone is dark (R154). The zones keep their last fade
start and elapsed time, DESIGN CHOICE (assumption 33). -/
def execOffTimerExpiry (s : State) : Host.Outcome State Fault Refusal :=
  .next (
    if s.lamps.supply = .on ∧ s.lamps.off.isSome ∧ s.allDark = true then
      { s with lamps := { s.lamps with supply := .off, off := none } }
    else s)

/-- A sample of the ambient sensor (R156). -/
def execAmbientSample (reading : Nat) (s : State) : Host.Outcome State Fault Refusal :=
  .next (sampleAmbient reading s)

/-- The LAMP_FAULT line goes active (R155). -/
def execLampFaultActiveEdge (s : State) : Host.Outcome State Fault Refusal :=
  .next (lampFaultActive s)

/-- The LAMP_FAULT line goes inactive: its level alone changes (R155). -/
def execLampFaultInactiveEdge (s : State) : Host.Outcome State Fault Refusal :=
  .next { s with lamps := { s.lamps with faultLine := false } }

end Sys2Proof.Machine
end

