-- ==== Sys2Proof/Machine/Store.lean ====
section
/-! DEFINITION. The store interface's commands (2.5, 2.6): STORE_RESUME, the arbiter's grant, a read's
completion, and the read monitor with the store's failure. -/

namespace Sys2Proof.Machine

/-- The bed becomes OFF: clip and tag absent, F12 flushed (R119). -/
def bedOff (s : State) : State :=
  flushChan bedChan
    { s with mixer := { s.mixer with
        bedState := .off, bedClip := none, bedTag := none, bedPos := 0 } }

/-- The bed becomes OFF with a BED_STATE notice where it was not OFF (R119). -/
def bedOffNoted (reason : BedReason) (s : State) : State :=
  if s.mixer.bedState = .off then bedOff s
  else notify (.bedState .off none (some reason)) (bedOff s)

/-- STORE_RESUME (R35). -/
def takeStoreResume (tag : Byte) (s : State) : State :=
  let a := ack 0x1B tag (.storeBefore s.store.state)
    { s with store := { s.store with state := .ready, faults := 0 } }
  if s.store.state = .failed then handStoreReady a else a

/-- The readiness test of the programme a channel serves, after a block has landed on it (R69). -/
def readyAfter (c : Chan) (s : State) : State :=
  match indexOf 12 c.val with
  | some p => testReady p s
  | none => s

/-- A group's readiness and its members' priming end with the store (R73). -/
def groupsStoreFailed (s : State) : State :=
  let a := forAll allProgs (fun p t => t.mapProg p fun x => { x with priming := none }) s
  forAll allSlots
    (fun g t => t.setGroup g ((t.group g).map fun r =>
      if r.state = .armed then { r with ready := 0 } else r)) a

/-- Entry to FAILED (R34): every channel flushed, and the failure handed to the stop table, the group
table, the players and the bed. -/
def storeFailed (s : State) : State :=
  let a := forAll allChans flushChan s
  let b := groupsStoreFailed (dropAnnouncement .store a)
  bedOffNoted .store (forAll allProgs playerStoreFailed b)

/-- The fault of an expired read monitor (R34): the count, the state and the notice. -/
def countFault (c : Chan) (r : Read) (s : State) : State :=
  let n := min 3 (s.store.faults + 1)
  let st : StoreState := if n = 3 then .failed else .ready
  notify (.storeFault n st c r.block) { s with store := { s.store with faults := n, state := st } }

/-! ## The commands -/

/-- STORE_RESUME at the link. -/
def execStoreResume (tag : Byte) (s : State) : Host.Outcome State Fault Refusal :=
  .next (viaLink (.storeResume tag) (takeStoreResume tag s) s)

/-- The arbiter grants a read while the port is free and a channel requests (R30). -/
def execStoreGrant (s : State) : Host.Outcome State Fault Refusal :=
  .next (
    if s.portFree then
      match s.grantee with
      | some c => grantChan c s
      | none => s
    else s)

/-- A read completes (R31). The data of a read already abandoned is ignored. -/
def execReadCompletion (delivery : Delivery) (samples : List Sample) (s : State) :
    Host.Outcome State Fault Refusal :=
  .next (
    match delivery, s.readInFlight with
    | .inFlight, some (c, r) =>
      readyAfter c (landBlock c r samples
        { s with store := { s.store with monitor := none, faults := 0 } })
    | .inFlight, none => s
    | .abandoned, _ => s)

/-- The read monitor expires (R33, R34). -/
def execReadMonitorExpiry (s : State) : Host.Outcome State Fault Refusal :=
  .next (
    match s.store.monitor, s.readInFlight with
    | some _, some (c, r) =>
      let a := readyAfter c (landBlock c r silentBlock
        { s with store := { s.store with monitor := none } })
      let b := countFault c r a
      if b.store.state = .failed then storeFailed b else b
    | _, _ => s)

end Sys2Proof.Machine
end

