-- ==== Sys2Proof/Machine/Programmes.lean ====
section
/-! DEFINITION. The programme players' commands (Chapter 3): PROGRAMME_SET, GET_PROGRAMME,
QUEUE_SEGMENT, CANCEL_SEGMENT and the player's block period. -/

namespace Sys2Proof

open Machine

/-- The first test of R44: every field in its range. -/
def SegmentForm.inRange (q : SegmentForm) : Bool :=
  decide (1 ≤ q.id ∧ q.id ≤ 65535) && (indexOf 12 q.prog).isSome && (yesNo q.flags).isSome &&
    isClip q.main && q.short.all isClip && isDistance? q.trigger && isDistance? q.cancel &&
    q.group.all (fun g => decide (1 ≤ g ∧ g ≤ 255)) && isCue? q.cue &&
    (if q.group.isSome then q.trigger.isNone && q.cancel.isNone && q.cue.isNone
      else q.trigger.isSome)

end Sys2Proof

namespace Sys2Proof.Machine

/-! ## PROGRAMME_SET (R40, R41) -/

/-- The tests of PROGRAMME_SET in order (R40). -/
def State.programmeSetRefusal (s : State) (prog enabled : Nat) (trim : Int) (bed : Nat) :
    Option RefuseCode :=
  firstFail [
    ((indexOf 12 prog).isSome && within (-24) 24 trim && (yesNo enabled).isSome &&
      (yesNo bed).isSome, .range),
    (!(decide (enabled = 0) && allProgs.all fun q => decide (q.val = prog) || !(s.prog q).enabled),
      .last)]

/-- A disabled programme leaves one group (R65, R41 step 6). -/
def leaveDeclared (p : Prog) (slot : GroupSlot) (s : State) : State :=
  match s.group slot with
  | none => s
  | some g =>
    if g.state = .released ∨ Mask.has g.declared p = false then s
    else
      let d := Mask.erase g.declared p
      let h := { g with
        declared := d, enrolled := Mask.erase g.enrolled p, ready := Mask.erase g.ready p }
      if d = 0 then notify (.groupEnded g.id .empty) (s.setGroup slot none)
      else releaseIfReady slot (s.setGroup slot (some h))

/-- A jack on a disabled programme moves to the deck default in force (R135). -/
def moveJack (p : Prog) (j : Jack) (s : State) : State :=
  if (s.jack j).language = p then
    let t := changeJack j
      { s.jack j with language := s.deckDefault (s.node (nodeOf j)).deck } s
    if (s.jack j).state = .present then jackChange j t else t
  else s

/-- A programme's disabling (R41). Its groups lose it in ascending order of their slots, DESIGN CHOICE
(assumption 30). -/
def disableProgramme (p : Prog) (s : State) : State :=
  let a := emptyProgramme p .disabled true s
  let b := { a with mixer := { a.mixer with ducks := a.mixer.ducks.write p 0 } }
  let c := forAll allSlots (leaveDeclared p) b
  settleAnnouncement (forAll allJacks (moveJack p) c)

/-- A programme's enabling: a driver PA item where driver PA is in force (R40, R90). -/
def enableProgramme (p : Prog) (s : State) : State :=
  if s.voice.pa = .on then startLive p .driver s else s

/-- A new trim handed to the level unit: the jacks of the programme's language (R128). -/
def trimJacks (p : Prog) (s : State) : State :=
  forAll allJacks (fun j t => if (t.jack j).language = p then recompute j t else t) s

/-- PROGRAMME_SET (R40). -/
def takeProgrammeSet (tag : Byte) (prog enabled language : Nat) (trim : Int) (bed : Nat) (s : State) :
    State :=
  match s.programmeSetRefusal prog enabled trim bed, indexOf 12 prog, yesNo enabled, yesNo bed with
  | some code, _, _, _ => refuse 0x20 tag code s
  | none, some p, some e, some b =>
    let t := s.mapProg p fun x => { x with enabled := e, language := language, trim := trim, bed := b }
    let u := trimJacks p (ack 0x20 tag .empty t)
    if (s.prog p).enabled = e then u
    else if e then enableProgramme p u
    else disableProgramme p u
  | none, _, _, _ => refuse 0x20 tag .range s

/-! ## GET_PROGRAMME (R42) -/

/-- A player's active item as GET_PROGRAMME reports it. -/
def Programme.itemView (x : Programme) : ItemView :=
  match x.active with
  | none => .none
  | some (.segment g _ pos) => .segment g.id (g.chosen.getD .main) pos
  | some (.stop i _ _ pos) => .stop i.stop i.part pos
  | some .guide => .guide
  | some .driver => .driver

/-- A stack entry as GET_PROGRAMME reports it. -/
def Entry.view (e : Entry) : EntryView :=
  match e with
  | .segment g => { level := e.level, object := some g.id, resume := g.resume }
  | .stop i => { level := e.level, object := some i.stop.val, resume := i.resume }
  | .guide => { level := e.level, object := none, resume := 0 }

/-- What GET_PROGRAMME reports; the stack from bottom to top. -/
def Programme.view (x : Programme) : ProgrammeView :=
  { enabled := x.enabled, language := x.language, trim := x.trim, bed := x.bed,
    underruns := x.underruns, player := x.player, active := x.itemView,
    staged := x.staged.map fun g => g.seg.id, stack := x.stack.reverse.map Entry.view,
    queue := x.queue.map fun g => (g.id, g.state) }

/-- GET_PROGRAMME (R42). -/
def takeGetProgramme (tag : Byte) (prog : Nat) (s : State) : State :=
  match indexOf 12 prog with
  | some p => ack 0x21 tag (.programme (s.prog p).view) s
  | none => refuse 0x21 tag .range s

/-! ## QUEUE_SEGMENT (R44, R45) -/

/-- Whether a live segment holds an ID. -/
def State.live (s : State) (id : Nat) : Bool :=
  allProgs.any fun p => (s.prog p).segments.any fun g => decide (g.id = id)

/-- Whether a clip is defined and of kind SPEECH. -/
def State.isSpeech (s : State) (n : Nat) : Bool :=
  ((s.clip n).map fun c => decide (c.kind = .speech)).getD false

/-- The effective cancel of a segment to be queued. -/
def State.cancelFor (s : State) (q : SegmentForm) : Option Nat :=
  match q.group with
  | none => q.cancel
  | some id => (s.groupOf id).bind Group.cancel

/-- A test of the group a segment names; passed where it names none or none holds the ID. -/
def State.groupTest (s : State) (q : SegmentForm) (f : Group → Bool) : Bool :=
  (q.group.bind s.groupOf).all f

/-- Whether a set holds a programme given by its number. -/
def maskHas (m : ProgMask) (prog : Nat) : Bool := m.getLsbD prog

/-- The tests of QUEUE_SEGMENT in order (R44). -/
def State.queueRefusal (s : State) (q : SegmentForm) : Option RefuseCode :=
  firstFail [
    (q.inRange, .range),
    (decide (s.op.state = .run) && maskHas s.enabledMask q.prog, .state),
    (((indexOf 12 q.prog).all fun p => decide ((s.prog p).queue.length < 8)), .full),
    ((s.clip q.main).isSome && (q.short.all fun c => (s.clip c).isSome) &&
      (q.group.all fun id => (s.groupOf id).isSome), .unknownId),
    (s.isSpeech q.main && q.short.all s.isSpeech &&
      (q.cancel.all fun c => decide (q.trigger.getD 0 < c)), .range),
    (s.groupTest q (fun g => decide (g.state ≠ .released)), .state),
    (s.groupTest q (fun g => maskHas g.declared q.prog), .notMember),
    (s.groupTest q (fun g => !maskHas g.enrolled q.prog) && !s.live q.id, .duplicate),
    (!s.reaches (s.cancelFor q), .passed),
    (s.storeReady, .noStore)]

/-- The segment record QUEUE_SEGMENT builds (R45 steps 1 and 5). -/
def State.newSegment (s : State) (q : SegmentForm) : Segment :=
  { id := q.id, main := q.main, short := q.short, trigger := q.trigger, cancel := q.cancel,
    group := q.group, fit := decide (q.flags = 1), cue := q.cue, arrival := s.arrivals,
    state := if q.group.isNone && s.reaches q.trigger then .eligible else .queued, chosen := none,
    held := none, resume := 0, since := none, cueRun := false }

/-- The state and the place of a segment of a programme, as QUEUE_SEGMENT's ACK carries them (R45). -/
def Programme.whereIs (x : Programme) (id : Nat) : Option SegState × Option Nat :=
  ((x.segments.find? fun g => decide (g.id = id)).map Segment.state,
    x.queue.findIdx? fun g => decide (g.id = id))

/-- A segment's programme enrolled in its group (R45 step 4, R65). -/
def enrol (p : Prog) (group : Option Nat) (s : State) : State :=
  match group with
  | some id => s.mapGroup id fun g => { g with enrolled := Mask.insert g.enrolled p }
  | none => s

/-- QUEUE_SEGMENT (R44, R45). -/
def takeQueueSegment (tag : Byte) (q : SegmentForm) (s : State) : State :=
  match s.queueRefusal q, indexOf 12 q.prog with
  | some code, _ => refuse 0x22 tag code s
  | none, some p =>
    let a := enrol p q.group (enqueue p (s.newSegment q) { s with arrivals := s.arrivals + 1 })
    let b := act p a
    let place := (b.prog p).whereIs q.id
    ack 0x22 tag (.queued place.1 place.2) b
  | none, none => refuse 0x22 tag .range s

/-! ## CANCEL_SEGMENT (R48) -/

/-- The programme that holds a live segment. -/
def State.holder (s : State) (id : Nat) : Option (Prog × Segment) :=
  allProgs.findSome? fun p =>
    ((s.prog p).segments.find? fun g => decide (g.id = id)).map fun g => (p, g)

/-- A segment's removal from a stack: the entries above it move down (R48, R81). -/
def Programme.unstack (x : Programme) (id : Nat) : Programme :=
  { x with stack := x.stack.filter fun e =>
      match e with
      | .segment g => decide (g.id ≠ id)
      | .stop _ => true
      | .guide => true }

/-- The removal of a live segment with reason CANCELLED, by the state it holds (R48). -/
def cancelSegment (p : Prog) (g : Segment) (s : State) : State :=
  match g.state with
  | .queued => act p (dropQueued p .cancelled g s)
  | .eligible => act p (dropQueued p .cancelled g s)
  | .waiting => act p (dropQueued p .cancelled g s)
  | .staged => act p (dropStaged p .cancelled s)
  | .active =>
    nextChoice p false
      (miss p g .cancelled (flushChan (chanOf p) (s.mapProg p fun x => { x with active := none })))
  | .suspended => miss p g .cancelled (s.mapProg p fun x => x.unstack g.id)

/-- CANCEL_SEGMENT (R48). -/
def takeCancelSegment (tag : Byte) (id : Nat) (s : State) : State :=
  if id = 0 then refuse 0x23 tag .range s
  else
    match s.holder id with
    | none => refuse 0x23 tag .unknownId s
    | some (p, g) => settleAnnouncement (cancelSegment p g (ack 0x23 tag (.cancelled g.state) s))

/-! ## The block period (R50 to R55) -/

/-- What a player has produced for its block period. -/
def speak (p : Prog) (speech : Speech) (state : PlayerState) (level : Int) (s : State) : State :=
  s.mapProg p fun x => { x with voiced := { speech := speech, state := state, level := level } }

/-- The tags of a clip item, and how many blocks it has from its position to its end (R51). -/
def State.needs (s : State) : Item → List Tag × Nat
  | .segment g tag pos => ([tag], s.clipBlocks g.clip - pos)
  | .stop i tag langTag pos =>
    (tag :: langTag.toList,
      s.clipBlocks i.clip - pos +
        (match i.part, i.lang with
          | .chime, some n => s.clipBlocks n
          | _, _ => 0))
  | .guide => ([], 0)
  | .driver => ([], 0)

/-- Whether a PRIMING player's channel holds its item's needed count of blocks (R51). -/
def State.primed (s : State) (p : Prog) (e : Item) : Bool :=
  decide (min 2 (s.needs e).2 ≤ (s.chan (chanOf p)).countTags (s.needs e).1)

/-- The active item after one of its blocks has been taken; where that was its last block the item
ends by consumption and the next choice is made (R52, R55, R56). -/
def advanceItem (p : Prog) (e : Item) (s : State) : State :=
  let put (i : Item) : State := s.mapProg p fun x => { x with active := some i }
  let ended := s.mapProg p fun x => { x with active := none }
  match e with
  | .segment g tag pos =>
    if s.clipBlocks g.clip ≤ pos + 1 then nextChoice p true (done p g ended)
    else put (.segment g tag (pos + 1))
  | .stop i tag langTag pos =>
    if pos + 1 < s.clipBlocks i.clip then put (.stop i tag langTag (pos + 1))
    else
      match i.part, langTag with
      | .chime, some t => put (.stop { i with part := .language, resume := 0 } t none 0)
      | _, _ => nextChoice p true (reportHeard p i.stop ended)
  | .guide => s
  | .driver => s

/-- A player in PLAYING takes a block; an empty FIFO is an underrun (R36, R50). -/
def playBlock (p : Prog) (e : Item) (s : State) : State :=
  match (s.chan (chanOf p)).take with
  | some (b, left) =>
    advanceItem p e (speak p (.clip b.samples) .playing e.level (s.setChan (chanOf p) left))
  | none =>
    let n := min 65535 ((s.prog p).underruns + 1)
    notify (.underrun p n)
      (speak p .silence .playing e.level (s.mapProg p fun x => { x with underruns := n }))

/-- One block period of a player (R50). -/
def playerPeriod (p : Prog) (s : State) : State :=
  match (s.prog p).player, (s.prog p).active with
  | .priming, some e =>
    if s.primed p e then playBlock p e (s.mapProg p fun x => { x with player := .playing })
    else speak p .silence .priming e.level s
  | .playing, some e => playBlock p e s
  | .live, some .guide => speak p .guide .live 1 s
  | .live, some .driver => speak p .driver .live 3 s
  | _, _ => speak p .silence .idle (-1) s

/-! ## The commands -/

/-- PROGRAMME_SET at the link. -/
def execProgrammeSet (tag : Byte) (prog enabled language : Nat) (trim : Int) (bed : Nat) (s : State) :
    Host.Outcome State Fault Refusal :=
  .next (viaLink (.programmeSet tag prog enabled language trim bed)
    (takeProgrammeSet tag prog enabled language trim bed s) s)

/-- GET_PROGRAMME at the link. -/
def execGetProgramme (tag : Byte) (prog : Nat) (s : State) : Host.Outcome State Fault Refusal :=
  .next (viaLink (.getProgramme tag prog) (takeGetProgramme tag prog s) s)

/-- QUEUE_SEGMENT at the link. -/
def execQueueSegment (tag : Byte) (q : SegmentForm) (s : State) : Host.Outcome State Fault Refusal :=
  .next (viaLink (.queueSegment tag q) (takeQueueSegment tag q s) s)

/-- CANCEL_SEGMENT at the link. -/
def execCancelSegment (tag : Byte) (id : Nat) (s : State) : Host.Outcome State Fault Refusal :=
  .next (viaLink (.cancelSegment tag id) (takeCancelSegment tag id s) s)

/-- A player's block period (R50), with the announcement settled after the reports it makes. -/
def execPlayerBlockPeriod (p : Prog) (s : State) : Host.Outcome State Fault Refusal :=
  .next (settleAnnouncement (playerPeriod p s))

end Sys2Proof.Machine
end

