-- ==== Sys2Proof/Machine/Route.lean ====
section
/-! DEFINITION. The route clock's commands (Chapter 1): POSITION, ROUTE_RESET, GET_ROUTE, the
extrapolation period, the stale timer and the report age. `take…` is a request as its block takes it;
`exec…` is the command as it reaches the link (R171). -/

namespace Sys2Proof.Machine

/-- The greatest estimate and odometer, mm (R2). -/
def routeEnd : Nat := 100000000

/-- A ROUTE_STATE notice for the route state as it stands (R3). -/
def routeNote (s : State) : State := notify (.routeState s.route.state (s.route.odo / 100)) s

/-- The estimate of a report, its speed and age clamped (R4, R5 step 1). -/
def reportEstimate (d v a : Nat) : Nat :=
  min routeEnd (100 * d + min v 4000 * min a 2000 / 100)

/-- The outcome of a report with estimate `e` (R5, R6, R7). -/
def State.reportOutcome (s : State) (e : Nat) : ReportOutcome :=
  if s.route.odo < e then
    if 1000 * s.setup.jumpLimit < e - s.route.odo then .jump else .forward
  else .held

/-- The route clock record after a report (R5). The stale timer it loads counts down only in RUN
(R11). -/
def State.reported (s : State) (d v a : Nat) : RouteClock :=
  { s.route with
    est := reportEstimate d v a, rem := 0, odo := max s.route.odo (reportEstimate d v a),
    speed := min v 4000, state := .tracking, stale := some (1000 * s.setup.staleTime),
    age := some 0 }

/-- POSITION (R4 to R7). -/
def takePosition (tag : Byte) (d v a : Nat) (s : State) : State :=
  if isDistance d then
    let e := reportEstimate d v a
    let r := s.reported d v a
    let b := ack 0x10 tag
      (.position (s.reportOutcome e) (decide (4000 < v) || decide (2000 < a)) (r.odo / 100)
        (r.est / 100)) { overtake .stale s.route.stale s with route := r }
    let c := if s.reportOutcome e = .jump then notify (.jump (s.route.odo / 100) (r.odo / 100)) b
      else b
    let n := if s.route.state = .tracking then c else routeNote c
    if s.route.odo < r.odo then handAdvance n else n
  else refuse 0x10 tag .range s

/-- The route clock record after a route reset (R12). -/
def RouteClock.routeReset (start : Nat) : RouteClock :=
  { est := 100 * start, rem := 0, odo := 100 * start, speed := 0, state := .unset, stale := none,
    start := start, age := none }

/-- ROUTE_RESET (R12, R13). -/
def takeRouteReset (tag : Byte) (start : Nat) (s : State) : State :=
  if isDistance start then
    let a := ack 0x11 tag .empty { s with route := RouteClock.routeReset start }
    handRouteReset (if s.route.state = .unset then a else routeNote a)
  else refuse 0x11 tag .range s

/-- What GET_ROUTE reports (R15). -/
def State.routeView (s : State) : RouteView :=
  { state := s.route.state, odoDm := s.route.odo / 100, estDm := s.route.est / 100,
    speed := s.route.speed, inForce := s.speedInForce, start := s.route.start, age := s.route.age }

/-- GET_ROUTE (R15). -/
def takeGetRoute (tag : Byte) (s : State) : State := ack 0x12 tag (.route s.routeView) s

/-- The route clock record after one extrapolation period (R9, R2). -/
def RouteClock.extrapolate (r : RouteClock) : RouteClock :=
  let e := r.est + (r.rem + r.speed) / 5
  if routeEnd < e then { r with est := routeEnd, rem := 0, odo := max r.odo routeEnd }
  else { r with est := e, rem := (r.rem + r.speed) % 5, odo := max r.odo e }

/-! ## The commands -/

/-- POSITION at the link. -/
def execPosition (tag : Byte) (d v a : Nat) (s : State) : Host.Outcome State Fault Refusal :=
  .next (viaLink (.position tag d v a) (takePosition tag d v a s) s)

/-- ROUTE_RESET at the link. -/
def execRouteReset (tag : Byte) (start : Nat) (s : State) : Host.Outcome State Fault Refusal :=
  .next (viaLink (.routeReset tag start) (takeRouteReset tag start s) s)

/-- GET_ROUTE at the link. -/
def execGetRoute (tag : Byte) (s : State) : Host.Outcome State Fault Refusal :=
  .next (viaLink (.getRoute tag) (takeGetRoute tag s) s)

/-- The extrapolation period expires; it runs in RUN and TRACKING alone (R9). -/
def execExtrapolationPeriod (s : State) : Host.Outcome State Fault Refusal :=
  .next (
    if s.op.state = .run ∧ s.route.state = .tracking then
      let t := { s with route := s.route.extrapolate }
      if s.route.odo < t.route.odo then handAdvance t else t
    else s)

/-- The stale timer expires (R8); it runs in RUN and TRACKING alone. An expiry that a report came before
does not happen. -/
def execStaleTimerExpiry (s : State) : Host.Outcome State Fault Refusal :=
  .next (unlessOvertaken .stale
    (if s.op.state = .run ∧ s.route.state = .tracking ∧ s.route.stale.isSome then
      routeNote { s with route := { s.route with state := .stale, stale := none } }
    else s) s)

/-- 100 ms of report age pass (R8). -/
def execReportAgeTick (s : State) : Host.Outcome State Fault Refusal :=
  .next { s with route := { s.route with age := s.route.age.map fun n => min 65535 (n + 1) } }

end Sys2Proof.Machine
end

