-- ==== Sys2Proof/Machine/Power.lean ====
section
/-! DEFINITION. The operating-state unit (10.1 to 10.4): the changes of state with their effects on
every block, SET_STATE, the IGN line, the unit's timers, the hard reset and what RESTART makes. The
order of the blocks within one change is DESIGN CHOICE (assumption 23). -/

namespace Sys2Proof.Machine

/-! ## The effects of a change on the blocks (R163) -/

/-- The OP_STATE notice of a change (R159). -/
def opNote (cause : OpCause) (s : State) : State := notify (.opState s.op.state cause) s

/-- The unit's own fields on entry to RUN (R163). -/
def OpUnit.toRun (u : OpUnit) : OpUnit :=
  { u with
    state := .run, inactivity := none, ampEn := true, settle := some 250,
    ignOff := if u.ign then none else some 30000 }

/-- The unit's own fields on entry to LAYOVER (R163, R164). -/
def OpUnit.toLayover (u : OpUnit) : OpUnit :=
  { u with
    state := .layover, inactivity := some 1800000, ampEn := false, settle := none, ignOff := none }

/-- The unit's own fields on entry to DORMANT (R163). -/
def OpUnit.toDormant (u : OpUnit) : OpUnit :=
  { u with state := .dormant, inactivity := none, ampEn := false, settle := none, ignOff := none }

/-- The route clock on entry to RUN (R11). -/
def routeRun (s : State) : State :=
  { s with route := { s.route with
      stale := if s.route.state = .tracking then some (1000 * s.setup.staleTime) else none } }

/-- The route clock on entry to LAYOVER or DORMANT: the stale timer stops (R11). -/
def routeStop (s : State) : State := { s with route := { s.route with stale := none } }

/-- The seat loop on entry to RUN: rounds back to back (R145). -/
def loopRun (s : State) : State :=
  settleRound { s with loop := { s.loop with roundTimer := none, due := false } }

/-- The seat loop on entry to LAYOVER from RUN: the round timer started (R145). -/
def loopLayover (s : State) : State :=
  { s with loop := { s.loop with roundTimer := some 1000, due := false } }

/-- The seat loop on entry to DORMANT (R145). -/
def loopStop (s : State) : State :=
  let a := abandonPolls s
  { a with loop := { a.loop with next := none, due := false, roundTimer := none } }

/-- The duck values, the lift and the lift target at 0 (R130). -/
def quietMixer (s : State) : State :=
  { s with mixer := { s.mixer with
      ducks := .fill 12 0, upperDuck := 0, lowerDuck := 0, lift := 0, liftGoal := 0 } }

/-- Both cue players release their zones and become IDLE (R157). -/
def idleCues (s : State) : State := idlePlayer .scene (idlePlayer .stop s)

/-- The lighting unit on entry to DORMANT: targets and outputs 0, the supply OFF unless FAULTED
(R157). -/
def lightsDormant (s : State) : State :=
  let a := mapZones
    (fun _ z => if z.target = 0 then z.hold else { z.hold with target := 0, fadeTime := 0 })
    (idleCues s)
  { a with lamps := { a.lamps with
      supply := if a.lamps.supply = .faulted then .faulted else .off, settle := none, off := none } }

/-- The live voices end with the run state (R94). -/
def voiceOff (s : State) : State :=
  { s with voice := { s.voice with guide := 0, pa := .off, ptt := none } }

/-- Entry to RUN (R163). -/
def enterRun (cause : OpCause) (s : State) : State :=
  let a := opNote cause { s with op := s.op.toRun }
  startTest (retargetSlow (loopRun (recomputeAll (routeRun a))))

/-- Entry to LAYOVER from RUN (R163). The programmes are emptied in the order P0 to P11, DESIGN CHOICE
(assumption 23). -/
def enterLayover (cause : OpCause) (s : State) : State :=
  let a := routeStop (opNote cause { s with op := s.op.toLayover })
  let b := forAll allProgs (fun p t => emptyProgramme p .layover false t) a
  let c := dropAnnouncement .layover (clearGroups (voiceOff b))
  retargetSlow (idleCues (loopLayover (recomputeAll (bedOffNoted .layover c))))

/-- Entry to DORMANT (R163). -/
def enterDormant (cause : OpCause) (s : State) : State :=
  let a := routeStop (opNote cause { s with op := s.op.toDormant })
  lightsDormant (loopStop (recomputeAll (quietMixer (forAll allChans flushChan a))))

/-- Entry to LAYOVER from DORMANT (R163): the loop starts with a round at once. -/
def wake (cause : OpCause) (s : State) : State :=
  let a := opNote cause { s with op := s.op.toLayover }
  retargetSlow (startRounds ((a.loop.round + 1) % 8) a)

/-! ## Requests and lines (R160 to R162) -/

/-- The part moved from its present state to another (10.2). The frame that carries SET_STATE has woken
a dormant part before it is taken; a change made from DORMANT after all enters its target directly
(assumption 13). -/
def moveTo (target : OpState) (cause : OpCause) (s : State) : State :=
  match s.op.state, target with
  | .run, .run => s
  | .layover, .layover => s
  | .dormant, .dormant => s
  | .layover, .run => enterRun cause s
  | .dormant, .run => enterRun cause s
  | .run, .layover => enterLayover cause s
  | .dormant, .layover => wake cause s
  | .layover, .dormant => enterDormant cause s
  | .run, .dormant => s

/-- SET_STATE (R161). -/
def takeSetState (tag : Byte) (target : Nat) (s : State) : State :=
  match targetOf target with
  | none => refuse 0x07 tag .range s
  | some t =>
    if t = .dormant ∧ s.op.state = .run then refuse 0x07 tag .state s
    else moveTo t .setState (ack 0x07 tag (.stateChange s.op.state t) s)

/-- SET_STATE at the link. -/
def execSetState (tag : Byte) (target : Nat) (s : State) : Host.Outcome State Fault Refusal :=
  .next (viaLink (.setState tag target) (takeSetState tag target s) s)

/-- The IGN line goes active (R160, R162). -/
def execIgnRisingEdge (s : State) : Host.Outcome State Fault Refusal :=
  .next (
    let a := { s with op := { s.op with ign := true } }
    match s.op.state with
    | .run => { a with op := { a.op with ignOff := none } }
    | .layover => enterRun .ign a
    | .dormant => wake .wake a)

/-- The IGN line goes inactive (R160). -/
def execIgnFallingEdge (s : State) : Host.Outcome State Fault Refusal :=
  .next (
    let a := { s with op := { s.op with ign := false } }
    if s.op.state = .run then { a with op := { a.op with ignOff := some 30000 } } else a)

/-- The IGN-off timer expires; it runs in RUN alone (R160). -/
def execIgnOffTimerExpiry (s : State) : Host.Outcome State Fault Refusal :=
  .next (if s.op.state = .run ∧ s.op.ignOff.isSome then enterLayover .ign s else s)

/-- The inactivity timer expires; it runs in LAYOVER alone. An expiry that a start byte came before does
not happen (R162). -/
def execInactivityTimerExpiry (s : State) : Host.Outcome State Fault Refusal :=
  .next (unlessOvertaken .inactivity
    (if s.op.state = .layover ∧ s.op.inactivity.isSome then enterDormant .inactivity s else s) s)

/-- The amplifier's settle timer expires (R125, R163). -/
def execAmpSettleTimerExpiry (s : State) : Host.Outcome State Fault Refusal :=
  .next { s with op := { s.op with settle := none } }

/-! ## Hard reset and RESTART (R164, R165) -/

/-- A hard reset at which the lines are sampled (R165). The commands that wait are the model's own and
stay. -/
def execHardReset (gmic ign lampFault : Bool) (s : State) : Host.Outcome State Fault Refusal :=
  .next (
    let a := { State.resetAt gmic ign with pending := s.pending }
    if lampFault then lampFaultActive a else a)

/-- A programme emptied by RESTART without notices or reports (R60); its underrun count is 0 (R36). -/
def Programme.restart (x : Programme) : Programme :=
  { x with
    underruns := 0, player := .idle, active := none, staged := none, stack := [], queue := [],
    priming := none, voiced := .idle }

/-- A channel flushed with its read abandoned; the tag counter is kept (R38). -/
def Channel.restart (c : Channel) : Channel := { c.flush with inFlight := none }

/-- A node by RESTART (R145). -/
def NodeRec.restart (n : NodeRec) : NodeRec :=
  if n.declared then { n with state := .online, misses := 0 } else n

/-- A jack by RESTART, before its pending update (R145). -/
def JackRec.restart (r : JackRec) : JackRec :=
  { r with
    state := .unknown, sense := none, assigned := false, absentAt := none, update := none,
    confirmed := none }

/-- The seat loop by RESTART (R145). -/
def loopRestart (s : State) : State :=
  let a := forAll allNodes (fun n t => t.setNode n (t.node n).restart) s
  let b := forAll allJacks (fun j t => t.setJack j (t.jack j).restart) a
  let c := recomputeAll { b with loop := { b.loop with polls := [] } }
  startRounds 0 (forAll allJacks giveUpdate c)

/-- The link's own steps of RESTART (R175 steps 1 to 3). -/
def Link.restart (l : Link) : Link :=
  { l with
    requests := [], notices := [], lost := false, restarting := false, gapErrors := 0,
    checkErrors := 0, lengthErrors := 0, overrunErrors := 0 }

/-- The store interface by RESTART (R38). -/
def storeRestart (s : State) : State :=
  forAll allChans (fun c t => t.setChan c (t.chan c).restart) { s with store := .reset }

/-- The stop table by RESTART, as a route reset with start 0 but without notices; no announcement starts
in LAYOVER (R114, R111). -/
def stopsRestart (s : State) : State :=
  forAll allStops dueTestQuiet (resetStops 0 { s with ann := .idle })

/-- The mixer by RESTART: the bed OFF with its gain kept (R130). -/
def mixerRestart (s : State) : State := quietMixer (bedOff s)

/-- The restart is made (R164, R175 step 4): every block takes its values, and no notice is placed. -/
def makeRestart (s : State) : State :=
  let a := { overtake .inactivity s.op.inactivity s with
    link := s.link.restart, op := s.op.toLayover, route := RouteClock.routeReset 0 }
  let b := forAll allProgs (fun p t => t.mapProg p Programme.restart) a
  let c := mixerRestart (storeRestart (clearGroups (voiceOff b)))
  retargetSlow (idleCues (loopRestart (stopsRestart c)))

end Sys2Proof.Machine
end

