-- ==== Sys2Proof/Machine/LinkOps.lean ====
section
/-! DEFINITION. The host link's own commands (Chapter 11): HELLO, GET_STATUS, LINK_RATE, RESTART, the
bytes received, the gap timer, and the sending of frames. -/

namespace Sys2Proof.Machine

/-! ## Requests (R167, R175, R176) -/

/-- What HELLO reports (R176). -/
def State.helloView (s : State) : HelloView :=
  { part := 1264, revision := 1,
    capacities := [12, 8, 3, 16, 64, 1024, 8, 16, 64, 8, 32, 8, 4, 4, 24], payload := 200,
    rate := s.link.rate }

/-- HELLO (R176). -/
def takeHello (tag : Byte) (s : State) : State := ack 0x01 tag (.hello s.helloView) s

/-- What GET_STATUS reports (R176). -/
def State.statusView (s : State) : StatusView :=
  { op := s.op.state, route := s.route.state, store := s.store.state, faults := s.store.faults,
    bed := s.mixer.bedState, pa := s.voice.pa, lost := s.link.lost,
    notices := s.link.notices.length, gap := s.link.gapErrors, check := s.link.checkErrors,
    length := s.link.lengthErrors, overrun := s.link.overrunErrors }

/-- GET_STATUS (R176). -/
def takeGetStatus (tag : Byte) (s : State) : State := ack 0x02 tag (.status s.statusView) s

/-- A reply that no longer makes a rate change, a later LINK_RATE having replaced the pending rate
(R167). -/
def Reply.unmark (r : Reply) : Reply :=
  match r.after with
  | .rateChange => { r with after := .nothing }
  | .nothing => r
  | .restart => r

/-- The frame being sent with its mark of a rate change removed. -/
def TxFrame.unmark : TxFrame → TxFrame
  | .reply r => .reply r.unmark
  | .notice n lost => .notice n lost

/-- LINK_RATE (R167). -/
def takeLinkRate (tag : Byte) (code : Nat) (s : State) : State :=
  if 3 < code then refuse 0x05 tag .range s
  else if code = s.link.rate then ack 0x05 tag (.rateBefore s.link.rate) s
  else
    reply 0x05 tag (.ack (.rateBefore s.link.rate)) .rateChange
      { s with link := { s.link with
          pendingRate := some code, replies := s.link.replies.map Reply.unmark,
          tx := s.link.tx.map TxFrame.unmark } }

/-- RESTART as the link takes it: its ACK is placed and a RESTART is pending (R164, R175). -/
def takeRestart (tag : Byte) (s : State) : State :=
  reply 0x06 tag (.ack (.stateBefore s.op.state)) .restart
    { s with link := { s.link with restarting := true } }

/-! ## Receiving (R168 to R170) -/

/-- The gap limit at a rate code, in tenths of a microsecond (R167). -/
def gapLimit : Nat → Nat
  | 0 => 3472
  | 1 => 1736
  | 2 => 868
  | _ => 434

/-- The bytes the receive FIFO holds; a mark takes no place (R169). -/
def rxBytes (q : List RxEntry) : Nat := q.countP fun e => decide (e ≠ .mark)

/-- A byte at the line placed in the receive FIFO, or dropped with an overflow mark (R169). -/
def rxPut (b : Byte) (q : List RxEntry) : List RxEntry :=
  if rxBytes q < 256 then q ++ [.byte b]
  else if q.getLast? = some .mark then q
  else q ++ [.mark]

/-- The receiver in HUNT, its gap timer stopped. -/
def Link.hunt (l : Link) : Link := { l with receiver := .hunt, gap := none }

/-- A start byte handed to the operating-state unit (R162). -/
def startByte (s : State) : State :=
  match s.op.state with
  | .run => s
  | .layover =>
    { overtake .inactivity s.op.inactivity s with op := { s.op with inactivity := some 1800000 } }
  | .dormant => wake .wake s

/-- The frame whose bytes after the start byte are the length, the kind, the tag and the payload. -/
def frameOf (got : List Byte) : Frame :=
  { kind := got.getD 1 0, tag := got.getD 2 0, payload := got.drop 3 }

/-- A byte taken in IN_FRAME, `got` holding the bytes taken after the start byte and `sum` their sum
(R168). -/
def frameByte (b : Byte) (got : List Byte) (sum : Byte) (s : State) : State :=
  let keep := { s with link := { s.link with receiver := .inFrame (got ++ [b]) (sum + b) } }
  let hunt := { s with link := s.link.hunt }
  match got with
  | [] => if 200 < b.toNat then linkError .length none hunt else keep
  | len :: _ =>
    if got.length < len.toNat + 3 then keep
    else if sum + b = 0 then offerFrame (frameOf got) hunt
    else linkError .check (some ((frameOf got).kind, (frameOf got).tag)) hunt

/-- A byte taken by the receiver (R168). -/
def takeByte (b : Byte) (s : State) : State :=
  match s.link.receiver with
  | .hunt =>
    if b = 0x5A then
      startByte { s with link := { s.link with
        receiver := .inFrame [] 0, gap := some (gapLimit s.link.rate) } }
    else s
  | .inFrame got sum => frameByte b got sum s

/-- An overflow mark reached by the receiver (R169). -/
def takeMark (s : State) : State :=
  match s.link.receiver with
  | .hunt => s
  | .inFrame _ _ => linkError .overrun none { s with link := s.link.hunt }

/-! ## Sending (R167, R173 to R175) -/

/-- The pending rate takes effect (R167). -/
def changeRate (s : State) : State :=
  match s.link.pendingRate with
  | some code =>
    { s with link := { s.link.hunt with rate := code, pendingRate := none, rxFifo := [] } }
  | none => s

/-- What the sending of a frame's last byte makes. -/
def afterSend (f : TxFrame) (s : State) : State :=
  match f with
  | .notice _ _ => s
  | .reply r =>
    match r.after with
    | .nothing => s
    | .rateChange => changeRate s
    | .restart => makeRestart s

/-! ## The commands -/

/-- HELLO at the link. -/
def execHello (tag : Byte) (s : State) : Host.Outcome State Fault Refusal :=
  .next (viaLink (.hello tag) (takeHello tag s) s)

/-- GET_STATUS at the link. -/
def execGetStatus (tag : Byte) (s : State) : Host.Outcome State Fault Refusal :=
  .next (viaLink (.getStatus tag) (takeGetStatus tag s) s)

/-- LINK_RATE at the link. -/
def execLinkRate (tag : Byte) (code : Nat) (s : State) : Host.Outcome State Fault Refusal :=
  .next (viaLink (.linkRate tag code) (takeLinkRate tag code s) s)

/-- RESTART at the link. -/
def execRestart (tag : Byte) (s : State) : Host.Outcome State Fault Refusal :=
  .next (viaLink (.restart tag) (takeRestart tag s) s)

/-- A byte arrives at the line: into the receive FIFO, and the gap timer is loaded again in IN_FRAME
(R168, R169). -/
def execByteArrival (b : Byte) (s : State) : Host.Outcome State Fault Refusal :=
  .next (
    match s.link.receiver with
    | .hunt => { s with link := { s.link with rxFifo := rxPut b s.link.rxFifo } }
    | .inFrame _ _ =>
      { overtake .gap s.link.gap s with link := { s.link with
          rxFifo := rxPut b s.link.rxFifo, gap := some (gapLimit s.link.rate) } })

/-- The receiver takes the next byte or mark (R168, R169). -/
def execReceiverByte (s : State) : Host.Outcome State Fault Refusal :=
  .next (
    match s.link.rxFifo with
    | [] => s
    | .byte b :: rest => takeByte b { s with link := { s.link with rxFifo := rest } }
    | .mark :: rest => takeMark { s with link := { s.link with rxFifo := rest } })

/-- The gap timer expires; it runs in IN_FRAME alone. An expiry that the next byte came before does not
happen (R168). -/
def execGapTimerExpiry (s : State) : Host.Outcome State Fault Refusal :=
  .next (unlessOvertaken .gap
    (match s.link.receiver, s.link.gap with
      | .inFrame _ _, some _ => linkError .gap none { s with link := s.link.hunt }
      | _, _ => s) s)

/-- The transmitter begins to send the oldest reply, or else the oldest notice, while TXD is idle (R173,
R174). -/
def execFrameSendBegin (s : State) : Host.Outcome State Fault Refusal :=
  .next (
    match s.link.tx, s.link.replies, s.link.notices with
    | none, r :: rest, _ => { s with link := { s.link with tx := some (.reply r), replies := rest } }
    | none, [], n :: rest =>
      { s with link := { s.link with
          tx := some (.notice n s.link.lost), notices := rest, lost := false } }
    | none, [], [] => s
    | some _, _, _ => s)

/-- The transmitter sends the last byte of the frame on TXD (R167, R173, R175). -/
def execFrameSendEnd (s : State) : Host.Outcome State Fault Refusal :=
  .next (
    match s.link.tx with
    | some f => afterSend f { s with link := { s.link with tx := none } }
    | none => s)

end Sys2Proof.Machine
end

