-- ==== Sys2Proof/Machine/Mixer.lean ====
section
/-! DEFINITION. The mixer's and the level unit's commands (Chapter 7): the bed's requests, SPEAKER_SET,
GET_MIXER, the mixer's block period and the lift timer. -/

namespace Sys2Proof.Machine

/-! ## The bed (R117 to R119) -/

/-- The tests of BED_START in order (R117). -/
def State.bedRefusal (s : State) (clip : Nat) (gain : Int) : Option RefuseCode :=
  firstFail [
    (isClip clip && within (-120) 0 gain, .range),
    (decide (s.op.state = .run), .state),
    ((s.clip clip).isSome, .unknownId),
    ((s.clip clip).all (fun c => decide (c.kind = .bed)), .range),
    (s.storeReady, .noStore)]

/-- BED_START (R117). -/
def takeBedStart (tag : Byte) (clip : Nat) (gain : Int) (s : State) : State :=
  match s.bedRefusal clip gain with
  | some code => refuse 0x40 tag code s
  | none =>
    ack 0x40 tag (.bedBefore s.mixer.bedState)
      (loadChan bedChan clip 0
        { s with mixer := { s.mixer with
            bedState := .priming, bedClip := some clip, bedTag := some (s.loadTag bedChan),
            bedPos := 0, bedGain := gain } })

/-- BED_STOP (R119). -/
def takeBedStop (tag : Byte) (s : State) : State :=
  let a := ack 0x41 tag (.bedBefore s.mixer.bedState) s
  if s.mixer.bedState = .off then a else bedOff a

/-- BED_LEVEL (R119). -/
def takeBedLevel (tag : Byte) (gain : Int) (s : State) : State :=
  if within (-120) 0 gain then
    ack 0x42 tag (.gainBefore s.mixer.bedGain) { s with mixer := { s.mixer with bedGain := gain } }
  else refuse 0x42 tag .range s

/-! ## The speaker feeds and reading (R122, R129) -/

/-- A feed's settings written. -/
def setFeed (f : Feed) (x : FeedSettings) (s : State) : State :=
  match f with
  | .upper => { s with mixer := { s.mixer with upper := x } }
  | .lower => { s with mixer := { s.mixer with lower := x } }

/-- SPEAKER_SET (R122). -/
def takeSpeakerSet (tag : Byte) (feed source filter : Nat) (level : Int) (bed : Nat) (s : State) :
    State :=
  match feedOf feed, indexOf 12 source, filterOf filter, yesNo bed with
  | some f, some p, some k, some b =>
    if within (-120) 0 level then
      ack 0x43 tag .empty (setFeed f { source := p, filter := k, level := level, bed := b } s)
    else refuse 0x43 tag .range s
  | _, _, _, _ => refuse 0x43 tag .range s

/-- A feed as GET_MIXER reports it. -/
def State.feedView (s : State) (f : Feed) : FeedView :=
  { settings := s.feed f, gain := s.speakerGain f, held := s.speakersHeld }

/-- What GET_MIXER reports (R129). -/
def State.mixerView (s : State) : MixerView :=
  { bedState := s.mixer.bedState, bedClip := s.mixer.bedClip, bedGain := s.mixer.bedGain,
    ducks := s.mixer.ducks.toList, upperDuck := s.mixer.upperDuck, lowerDuck := s.mixer.lowerDuck,
    upper := s.feedView .upper, lower := s.feedView .lower, lift := s.mixer.lift,
    liftGoal := s.mixer.liftGoal, duckDepth := s.setup.duckDepth, liftSlope := s.setup.liftSlope,
    liftMax := s.setup.liftMax, ceiling := s.setup.ceiling }

/-- GET_MIXER (R129). -/
def takeGetMixer (tag : Byte) (s : State) : State := ack 0x44 tag (.mixer s.mixerView) s

/-! ## The block period (R115, R118, R120 to R125) -/

/-- A duck value moved one step toward its target (R120). -/
def duckStep (u target : Nat) : Nat :=
  if u < target then min target (u + 6) else if target < u then max target (u - 1) else u

/-- The block of a programme's speech, given the microphones' blocks (R121). -/
def Speech.block (v : Speech) (micGuide micDriver : Block) : Block :=
  match v with
  | .silence => silentBlock
  | .clip b => b
  | .guide => micGuide
  | .driver => micDriver

/-- The least level that a feed's filter passes (R122). -/
def Filter.least : Filter → Int
  | .all => 0
  | .guideUp => 1
  | .announce => 2

/-- Whether a feed's speech passes (R123). -/
def State.passes (s : State) (f : Feed) : Bool :=
  decide (s.voice.pa = .on) ||
    decide ((s.feed f).filter.least ≤ (s.prog (s.feed f).source).voiced.level)

/-- A feed's speech block (R123). -/
def State.feedSpeech (s : State) (f : Feed) (micGuide micDriver : Block) : Block :=
  if s.voice.pa = .on then micDriver
  else if s.passes f then (s.prog (s.feed f).source).voiced.speech.block micGuide micDriver
  else silentBlock

/-- Whether the bed moves from PRIMING to PLAYING at this block period (R118). -/
def State.bedPrimed (s : State) : Bool :=
  match s.mixer.bedState, s.mixer.bedClip, s.mixer.bedTag with
  | .priming, some n, some t => decide (min 2 (s.clipBlocks n) ≤ (s.chan bedChan).countTags [t])
  | _, _, _ => false

/-- The bed's block offset after a block has been taken (R36, R37). -/
def State.bedAfter (s : State) : Nat :=
  match s.mixer.bedClip with
  | some n => if s.clipBlocks n ≤ s.mixer.bedPos + 1 then s.loopPoint n else s.mixer.bedPos + 1
  | none => 0

/-- The bed's samples for this block period, and the state after the mixer has taken them (R118,
R36). -/
def takeBed (s : State) : Block × State :=
  let t := if s.bedPrimed then
      notify (.bedState .playing s.mixer.bedClip none)
        { s with mixer := { s.mixer with bedState := .playing } }
    else s
  if t.mixer.bedState = .playing then
    match (t.chan bedChan).take with
    | some (b, left) =>
      (b.samples,
        { t.setChan bedChan left with mixer := { t.mixer with bedPos := t.bedAfter } })
    | none => (silentBlock, t)
  else (silentBlock, t)

/-- A programme's duck value after its step; a disabled programme's is held at 0 (R115, R120). -/
def State.duckAfter (s : State) (p : Prog) : Nat :=
  if (s.prog p).enabled then
    duckStep (s.mixer.ducks.read p)
      (match (s.prog p).voiced.state with
        | .playing => s.setup.duckDepth
        | .live => s.setup.duckDepth
        | .idle => 0
        | .priming => 0)
  else 0

/-- A feed's duck value after its step (R120). -/
def State.feedDuckAfter (s : State) (f : Feed) : Nat :=
  duckStep (match f with
      | .upper => s.mixer.upperDuck
      | .lower => s.mixer.lowerDuck)
    (if s.passes f then s.setup.duckDepth else 0)

/-- Every duck value moved one step. -/
def stepDucks (s : State) : State :=
  { s with mixer := { s.mixer with
      ducks := ⟨Vector.ofFn s.duckAfter⟩,
      upperDuck := s.feedDuckAfter .upper, lowerDuck := s.feedDuckAfter .lower } }

/-- The mix of a speech block and the bed under it (R121). -/
def mixBlock (speech bed : Block) (level : Int) : Block :=
  buildBlock fun i => mixSample (speech.sample i) (bed.sample i) level

/-- A programme's output block (R115, R121). -/
def State.programmeBlock (s : State) (bed micGuide micDriver : Block) (p : Prog) : Block :=
  if (s.prog p).enabled then
    mixBlock ((s.prog p).voiced.speech.block micGuide micDriver)
      (if s.mixer.bedState = .playing ∧ (s.prog p).bed = true then bed else silentBlock)
      (s.mixer.bedGain - s.mixer.ducks.read p)
  else silentBlock

/-- A feed's output block, silent while the speakers are held (R124, R125). -/
def State.feedBlock (s : State) (bed micGuide micDriver : Block) (f : Feed) (duck : Nat) : Block :=
  if s.speakersHeld then silentBlock
  else
    let m := mixBlock (s.feedSpeech f micGuide micDriver)
      (if s.mixer.bedState = .playing ∧ (s.feed f).bed = true then bed else silentBlock)
      (s.mixer.bedGain - duck)
    buildBlock fun i => gainSample (m.sample i) (s.speakerGain f)

/-- The mixer's block period (R115). -/
def mixerPeriod (micGuide micDriver : Block) (s : State) : State :=
  let b := takeBed s
  let t := stepDucks b.2
  { t with mixer := { t.mixer with
      progOut := ⟨Vector.ofFn (t.programmeBlock b.1 micGuide micDriver)⟩,
      spkUpper := t.feedBlock b.1 micGuide micDriver .upper t.mixer.upperDuck,
      spkLower := t.feedBlock b.1 micGuide micDriver .lower t.mixer.lowerDuck } }

/-! ## The wind lift (R126) -/

/-- The lift target (R126 step 1). -/
def State.liftTarget (s : State) : Nat :=
  min s.setup.liftMax (s.speedInForce * s.setup.liftSlope / 100)

/-- The lift moved 1 hdB toward a target (R126 step 2). -/
def liftStep (w target : Nat) : Nat :=
  if w < target then w + 1 else if target < w then w - 1 else w

/-- The codes of the jacks on UPPER nodes computed again (R128). -/
def recomputeUpper (s : State) : State :=
  forAll allJacks
    (fun j t => if (t.node (nodeOf j)).deck = .upper then recompute j t else t) s

/-- An expiry of the lift timer (R126). -/
def liftPeriod (s : State) : State :=
  let w := liftStep s.mixer.lift s.liftTarget
  let t := { s with mixer := { s.mixer with lift := w, liftGoal := s.liftTarget } }
  if w = s.mixer.lift then t else recomputeUpper t

/-! ## The commands -/

/-- BED_START at the link. -/
def execBedStart (tag : Byte) (clip : Nat) (gain : Int) (s : State) :
    Host.Outcome State Fault Refusal :=
  .next (viaLink (.bedStart tag clip gain) (takeBedStart tag clip gain s) s)

/-- BED_STOP at the link. -/
def execBedStop (tag : Byte) (s : State) : Host.Outcome State Fault Refusal :=
  .next (viaLink (.bedStop tag) (takeBedStop tag s) s)

/-- BED_LEVEL at the link. -/
def execBedLevel (tag : Byte) (gain : Int) (s : State) : Host.Outcome State Fault Refusal :=
  .next (viaLink (.bedLevel tag gain) (takeBedLevel tag gain s) s)

/-- SPEAKER_SET at the link. -/
def execSpeakerSet (tag : Byte) (feed source filter : Nat) (level : Int) (bed : Nat) (s : State) :
    Host.Outcome State Fault Refusal :=
  .next (viaLink (.speakerSet tag feed source filter level bed)
    (takeSpeakerSet tag feed source filter level bed s) s)

/-- GET_MIXER at the link. -/
def execGetMixer (tag : Byte) (s : State) : Host.Outcome State Fault Refusal :=
  .next (viaLink (.getMixer tag) (takeGetMixer tag s) s)

/-- The mixer's block period (R115), with the blocks the two microphones delivered in it. -/
def execMixerBlockPeriod (micGuide micDriver : List Sample) (s : State) :
    Host.Outcome State Fault Refusal :=
  .next (mixerPeriod micGuide micDriver s)

/-- The lift timer expires (R126). -/
def execLiftTimerExpiry (s : State) : Host.Outcome State Fault Refusal := .next (liftPeriod s)

end Sys2Proof.Machine
end

