-- ==== Sys2Proof/Machine/Seats.lean ====
section
/-! DEFINITION. The seat loop controller's commands (Chapter 8): NODE_SET, JACK_SET, GET_JACK, the
sending of a poll, a box's reply, and the response and round timers. -/

namespace Sys2Proof.Machine

/-! ## Requests (R132, R144) -/

/-- One function applied to a node's four jacks in ascending position. -/
def mapNodeJacks (n : Node) (f : Jack → State → State) (s : State) : State := forAll (jacksOf n) f s

/-- A node declared from undeclared (R132). -/
def declareNode (n : Node) (d : Deck) (s : State) : State :=
  let a := s.setNode n { declared := true, deck := d, state := .online, misses := 0 }
  let b := mapNodeJacks n (fun j t => recompute j (t.setJack j (t.jack j).forget)) a
  mapNodeJacks n giveUpdate b

/-- A node undeclared from declared; its deck is kept (R131, R132). -/
def undeclareNode (n : Node) (s : State) : State :=
  let a := s.setNode n
    { declared := false, deck := (s.node n).deck, state := .offline, misses := 0 }
  let b := { a with loop := { a.loop with polls := a.loop.polls.map fun p =>
    if p.node = n then { p with detached := true } else p } }
  mapNodeJacks n (fun j t => recompute j (t.setJack j (t.jack j).forget)) b

/-- A node's deck written, its jacks' codes computed again (R132, R128). -/
def deckNode (n : Node) (d : Deck) (s : State) : State :=
  mapNodeJacks n recompute (s.setNode n { s.node n with deck := d })

/-- A node's record changed by NODE_SET (R132). -/
def changeNode (n : Node) (declared : Bool) (d : Deck) (s : State) : State :=
  if declared = (s.node n).declared then deckNode n d s
  else if declared then declareNode n d s
  else undeclareNode n s

/-- NODE_SET (R132). -/
def takeNodeSet (tag : Byte) (node declared deck : Nat) (s : State) : State :=
  match indexOf 16 node, yesNo declared, deckOf deck with
  | some n, some e, some d =>
    let a := changeNode n e d s
    settleRound (ack 0x48 tag (.node (a.node n).state) a)
  | _, _, _ => refuse 0x48 tag .range s

/-- JACK_SET (R144). -/
def takeJackSet (tag : Byte) (jack prog volume : Nat) (s : State) : State :=
  match indexOf 64 jack, indexOf 12 prog with
  | some j, some p =>
    if volume ≤ 15 ∧ (s.prog p).enabled = true then
      let a := changeJack j { s.jack j with language := p, volume := volume, assigned := true } s
      ack 0x49 tag (.jackSet (a.jack j).state (a.code j)) a
    else refuse 0x49 tag .range s
  | _, _ => refuse 0x49 tag .range s

/-- GET_JACK (R144). -/
def takeGetJack (tag : Byte) (jack : Nat) (s : State) : State :=
  match indexOf 64 jack with
  | some j =>
    ack 0x4A tag (.jack
      { jack := j, record := s.jack j, code := s.code j, node := s.node (nodeOf j) }) s
  | none => refuse 0x4A tag .range s

/-! ## Polls (R137 to R139) -/

/-- A poll sent to a node in a free slot, carrying its free updates (R137). -/
def sendPoll (k : PollSlot) (n : Node) (s : State) : State :=
  let carried := forAll (s.freeUpdates n)
    (fun j t => t.setJack j { t.jack j with
      update := (t.jack j).update.map fun u => { u with carriedBy := some k } }) s
  settleRound { carried with loop := { carried.loop with
    polls := carried.loop.polls ++
      [{ slot := k, node := n, timer := 4, detached := false, message := pollMessage s n }],
    next := some (n.val + 1) } }

/-- A matched reply from a declared node (R138 steps 4 to 6). -/
def takeReply (r : BoxReply) (s : State) : State :=
  let a := if (s.node r.node).state = .offline then nodeBack r.node s
    else s.setNode r.node { s.node r.node with misses := 0 }
  let b := forAll ((jacksOf r.node).zip r.senses) (fun x t => takeSense x.1 x.2 t) a
  forAll r.events (fun x t => takeButton (jackAt r.node x.1) x.2 t) b

/-- A reply matched to a poll (R138). -/
def matchReply (p : Poll) (r : BoxReply) (s : State) : State :=
  let a := confirm p.node p.slot (dropPoll p.slot s)
  settleRound (if p.detached || !(a.node p.node).declared then a else takeReply r a)

/-- A miss of a declared node (R139). -/
def countMiss (n : Node) (s : State) : State :=
  let m := min 3 ((s.node n).misses + 1)
  let a := s.setNode n { s.node n with misses := m }
  if m = 3 ∧ (s.node n).state = .online then nodeLost n a else a

/-- A poll abandoned at the expiry of its response timer (R139). -/
def expirePoll (p : Poll) (s : State) : State :=
  let a := uncarry p.node p.slot (dropPoll p.slot s)
  settleRound (if p.detached || !(a.node p.node).declared then a else countMiss p.node a)

/-! ## The commands -/

/-- NODE_SET at the link. -/
def execNodeSet (tag : Byte) (node declared deck : Nat) (s : State) :
    Host.Outcome State Fault Refusal :=
  .next (viaLink (.nodeSet tag node declared deck) (takeNodeSet tag node declared deck s) s)

/-- JACK_SET at the link. -/
def execJackSet (tag : Byte) (jack prog volume : Nat) (s : State) : Host.Outcome State Fault Refusal :=
  .next (viaLink (.jackSet tag jack prog volume) (takeJackSet tag jack prog volume s) s)

/-- GET_JACK at the link. -/
def execGetJack (tag : Byte) (jack : Nat) (s : State) : Host.Outcome State Fault Refusal :=
  .next (viaLink (.getJack tag jack) (takeGetJack tag jack s) s)

/-- A poll is sent where a slot is free and the round has a node to poll; the loop is stopped in
DORMANT (R133, R137). -/
def execPollSend (s : State) : Host.Outcome State Fault Refusal :=
  .next (
    match s.loop.freeSlot, s.loop.next.bind s.nextNode with
    | some k, some n => if s.op.state = .dormant then s else sendPoll k n s
    | _, _ => s)

/-- A message arrives from a box (R138, R180); none does in DORMANT. -/
def execSeatReply (bytes : List Byte) (s : State) : Host.Outcome State Fault Refusal :=
  .next (
    if s.op.state = .dormant then s
    else
      match parseReply bytes with
      | none => s
      | some r =>
        match s.loop.polls.find? fun p => decide (p.node = r.node) with
        | none => s
        | some p => matchReply p r s)

/-- A slot's response timer expires; it runs while the slot holds a poll (R139). -/
def execResponseTimerExpiry (slot : PollSlot) (s : State) : Host.Outcome State Fault Refusal :=
  .next (
    match s.loop.pollIn slot with
    | some p => if s.op.state = .dormant then s else expirePoll p s
    | none => s)

/-- The 1 s round timer expires; it runs in LAYOVER alone (R137). -/
def execRoundTimerExpiry (s : State) : Host.Outcome State Fault Refusal :=
  .next (
    if s.op.state = .layover ∧ s.loop.roundTimer.isSome then
      let a := { s with loop := { s.loop with roundTimer := some 1000 } }
      if a.loop.next.isSome then { a with loop := { a.loop with due := true } } else beginOne a
    else s)

end Sys2Proof.Machine
end

