-- ==== Sys2Proof/Machine/SetupItems.lean ====
section
/-! DEFINITION. The setup items' requests (10.5): SETUP and GET_SETUP. -/

namespace Sys2Proof.Machine

/-- A value of a range, as a natural number. -/
def natIn (lo hi v : Int) : Option Nat := if within lo hi v then some v.toNat else none

/-- A programme-valued item's value. -/
def progIn (v : Int) : Option Prog := if 0 ≤ v then indexOf 12 v.toNat else none

/-- The setup items with one item's value written; `none` where the item number is unknown or the value
is outside the item's range (10.5, R166, R178). -/
def Setup.put (x : Setup) (item : Nat) (v : Int) : Option Setup :=
  match item with
  | 1 => (natIn 0 2000 v).map fun n => { x with jumpLimit := n }
  | 2 => (natIn 1 30 v).map fun n => { x with staleTime := n }
  | 3 => (natIn 0 65535 v).map fun n => { x with storeBlocks := n }
  | 4 => (natIn 0 120 v).map fun n => { x with resumeLimit := n }
  | 5 => (natIn 0 200 v).map fun n => { x with passMargin := n }
  | 6 => (progIn v).map fun p => { x with fallback := p }
  | 7 =>
    if v = -1 then some { x with doorCue := none }
    else (natIn 0 31 v).map fun n => { x with doorCue := some n }
  | 8 => (natIn 0 60 v).map fun n => { x with duckDepth := n }
  | 9 => (natIn 0 8 v).map fun n => { x with liftSlope := n }
  | 10 => (natIn 0 24 v).map fun n => { x with liftMax := n }
  | 11 => if within (-60) 0 v then some { x with ceiling := v } else none
  | 12 => (natIn 0 15 v).map fun n => { x with stepDefault := n }
  | 13 => (progIn v).map fun p => { x with langUpper := p }
  | 14 => (progIn v).map fun p => { x with langLower := p }
  | 15 => (natIn 0 10000 v).map fun n => { x with releaseFade := n }
  | 16 => (natIn 0 1000 v).map fun n => { x with lampSettle := n }
  | 17 => (natIn 0 1023 v).map fun n => { x with dark := n }
  | 18 => (natIn 0 1023 v).map fun n => { x with light := n }
  | 19 => (natIn 0 255 v).map fun n => { x with courtesyMask := BitVec.ofNat 8 n }
  | 20 => (natIn 0 255 v).map fun n => { x with courtesyLevel := n }
  | _ => none

/-- The values a list of pairs would leave, or the item of the first pair that fails (R166). `seen`
holds the items named so far. -/
def Setup.putAll : Setup → List Nat → List (Nat × Int) → Except Nat Setup
  | x, _, [] => .ok x
  | x, seen, (item, v) :: rest =>
    if item ∈ seen then .error item
    else
      match x.put item v with
      | none => .error item
      | some y => Setup.putAll y (item :: seen) rest

/-- The tests that span items: STORE_BLOCKS against the defined clips, then DARK_THRESHOLD below
LIGHT_THRESHOLD (R166). -/
def Setup.spanning (x : Setup) (clips : Directory) : Except Nat Setup :=
  if clips.any fun e => decide (x.storeBlocks < e.2.first + e.2.count) then .error 3
  else if x.light ≤ x.dark then .error 17
  else .ok x

/-- The outcome of a SETUP list: the values the part would hold, or the failing item (R166). -/
def State.setupResult (s : State) (pairs : List (Nat × Int)) : Except Nat Setup :=
  match s.setup.putAll [] pairs with
  | .ok x => x.spanning s.clips
  | .error item => .error item

/-- A change of PASS_MARGIN taken by the stop table (R96). -/
def passAll (s : State) : State := forAll allStops passTest s

/-- A change of DUCK_DEPTH taken by the mixer (R120). -/
def clampDucks (s : State) : State :=
  { s with mixer := { s.mixer with
      ducks := ⟨s.mixer.ducks.cells.map fun u => min u s.setup.duckDepth⟩,
      upperDuck := min s.mixer.upperDuck s.setup.duckDepth,
      lowerDuck := min s.mixer.lowerDuck s.setup.duckDepth } }

/-- The items whose change acts at once handed to their blocks (R166). The others are read when they
are used. -/
def handSetup (old : Setup) (s : State) : State :=
  let a := if s.setup.passMargin = old.passMargin then s else passAll s
  let b := if s.setup.duckDepth = old.duckDepth then a else clampDucks a
  let c := if s.setup.ceiling = old.ceiling then b else recomputeAll b
  if s.setup.courtesyMask = old.courtesyMask ∧ s.setup.courtesyLevel = old.courtesyLevel then c
  else retargetSlow c

/-- SETUP (R166). -/
def takeSetup (tag : Byte) (pairs : List (Nat × Int)) (s : State) : State :=
  match s.setupResult pairs with
  | .error item => reply 0x03 tag (.refuseItem item) .nothing s
  | .ok x => handSetup s.setup (ack 0x03 tag (.applied pairs.length) { s with setup := x })

/-- The values of the setup items in the order of the table of 10.5. -/
def Setup.values (x : Setup) : List Int :=
  [x.jumpLimit, x.staleTime, x.storeBlocks, x.resumeLimit, x.passMargin, x.fallback.val,
    (x.doorCue.map fun n => (n : Int)).getD (-1), x.duckDepth, x.liftSlope, x.liftMax, x.ceiling,
    x.stepDefault, x.langUpper.val, x.langLower.val, x.releaseFade, x.lampSettle, x.dark, x.light,
    x.courtesyMask.toNat, x.courtesyLevel]

/-- GET_SETUP (R166). -/
def takeGetSetup (tag : Byte) (s : State) : State := ack 0x04 tag (.setupValues s.setup.values) s

/-! ## The commands -/

/-- SETUP at the link. -/
def execSetup (tag : Byte) (pairs : List (Nat × Int)) (s : State) : Host.Outcome State Fault Refusal :=
  .next (viaLink (.setup tag pairs) (takeSetup tag pairs s) s)

/-- GET_SETUP at the link. -/
def execGetSetup (tag : Byte) (s : State) : Host.Outcome State Fault Refusal :=
  .next (viaLink (.getSetup tag) (takeGetSetup tag s) s)

end Sys2Proof.Machine
end

