-- ==== Sys2Proof/Machine/Stops.lean ====
section
/-! DEFINITION. The stop table's commands (Chapter 6): LOAD_STOP, CLEAR_STOPS, STOP_REQUEST, GET_STOP,
and the edges of the STOP_REQ and DOOR lines. -/

namespace Sys2Proof

open Machine

/-- The first test of R97: every field in its range, no programme listed twice. -/
def StopForm.inRange (f : StopForm) : Bool :=
  (indexOf 64 f.index).isSome && decide (f.id ≤ 255) && (yesNo f.flags).isSome &&
    isDistance f.announce && isDistance f.arrival && decide (f.pairs.length ≤ 12) &&
    (f.pairs.all fun c => decide (c.1 ≤ 11) && isClip c.2) &&
    decide ((f.pairs.map Prod.fst).Nodup) && f.chime.all isClip && isCue? f.cue

/-- The pairs of a list as programmes and clips. -/
def StopForm.clips (f : StopForm) : List (Prog × Nat) :=
  f.pairs.filterMap fun c => (indexOf 12 c.1).map fun p => (p, c.2)

/-- The record LOAD_STOP writes in place of an old one (R98). -/
def StopForm.record (f : StopForm) (old : Option Stop) : Stop :=
  { id := f.id, announce := f.announce, arrival := f.arrival, requestOnly := decide (f.flags = 1),
    chime := f.chime, clips := f.clips, cue := f.cue, latch := (old.map Stop.latch).getD false,
    state := .pending, skip := none }

end Sys2Proof

namespace Sys2Proof.Machine

/-! ## LOAD_STOP (R97, R98) -/

/-- The arrival of the nearest loaded stop with a lower index. -/
def State.arrivalBelow (s : State) (i : StopIx) : Option Nat :=
  (allStops.filter fun j => decide (j.val < i.val)).reverse.findSome? fun j =>
    (s.stop j).map Stop.arrival

/-- The arrival of the nearest loaded stop with a higher index. -/
def State.arrivalAbove (s : State) (i : StopIx) : Option Nat :=
  (allStops.filter fun j => decide (i.val < j.val)).findSome? fun j => (s.stop j).map Stop.arrival

/-- Whether a clip is undefined or of a kind. -/
def State.kindIs (s : State) (k : ClipKind) (n : Nat) : Bool :=
  (s.clip n).all fun c => decide (c.kind = k)

/-- Whether a slot's present record, if any, may be replaced (R97 test 5). -/
def State.replaceable (s : State) (i : StopIx) : Bool :=
  (s.stop i).all fun t =>
    decide (t.state = .pending) && decide (s.route.odo < 100 * t.announce) &&
      decide (s.ann.stop ≠ some i)

/-- The tests of LOAD_STOP in order (R97). -/
def State.loadRefusal (s : State) (f : StopForm) : Option RefuseCode :=
  firstFail [
    (f.inRange, .range),
    (decide (f.announce ≤ f.arrival) &&
      (indexOf 64 f.index).all (fun i =>
        ((s.arrivalBelow i).all fun a => decide (a < f.arrival)) &&
          ((s.arrivalAbove i).all fun a => decide (f.arrival < a))), .order),
    ((f.chime.all fun c => (s.clip c).isSome) && (f.pairs.all fun c => (s.clip c.2).isSome),
      .unknownId),
    (f.chime.all (s.kindIs .chime) && (f.pairs.all fun c => s.kindIs .speech c.2), .range),
    ((indexOf 64 f.index).all s.replaceable, .state),
    (decide (s.route.odo < s.passPoint (f.record none)), .passed)]

/-- LOAD_STOP (R97, R98). -/
def takeLoadStop (tag : Byte) (f : StopForm) (s : State) : State :=
  match s.loadRefusal f, indexOf 64 f.index with
  | some code, _ => refuse 0x38 tag code s
  | none, some i =>
    let a := startTest (dueTestQuiet i (s.setStop i (some (f.record (s.stop i)))))
    ack 0x38 tag (.loaded (if (s.stop i).isSome then .replaced else .new)
      (((a.stop i).map Stop.state).getD .pending)) a
  | none, none => refuse 0x38 tag .range s

/-! ## The other requests -/

/-- CLEAR_STOPS (R99). -/
def takeClearStops (tag : Byte) (s : State) : State :=
  if s.ann.stop.isSome then refuse 0x39 tag .state s
  else
    ack 0x39 tag (.cleared (s.stops.toList.countP fun t => t.isSome))
      { s with stops := .fill 64 none }

/-- STOP_REQUEST (R102). -/
def takeStopRequest (tag : Byte) (s : State) : State :=
  if s.op.state = .run then
    match s.nextStop with
    | none => ack 0x3A tag (.requested none) s
    | some i =>
      setLatch i
        (ack 0x3A tag (.requested (some (i, ((s.stop i).map Stop.latch).getD false))) s)
  else refuse 0x3A tag .state s

/-- What GET_STOP reports (R100). -/
def State.stopView (s : State) (i : StopIx) (t : Stop) : StopView :=
  { index := i, record := t, passDm := s.passPoint t / 100,
    masks :=
      if s.ann.stop = some i then
        some (s.ann.participating, s.ann.outstanding, s.ann.heard, s.ann.cut)
      else none }

/-- GET_STOP (R100). -/
def takeGetStop (tag : Byte) (index : Nat) (s : State) : State :=
  match indexOf 64 index with
  | none => refuse 0x3B tag .range s
  | some i =>
    match s.stop i with
    | none => refuse 0x3B tag .unknownId s
    | some t => ack 0x3B tag (.stop (s.stopView i t)) s

/-- The door opens at the door stop, O being within its window (R104). -/
def openDoor (i : StopIx) (t : Stop) (s : State) : State :=
  let a := match t.state with
    | .pending => moveStop i .arrived none s
    | .due => moveStop i .arrived none s
    | .announcing => moveStop i .arrived none s
    | .announced => moveStop i .arrived none s
    | .arrived => s
    | .passed => s
    | .skipped => s
  cueStart? .stop s.setup.doorCue a

/-! ## The commands -/

/-- LOAD_STOP at the link. -/
def execLoadStop (tag : Byte) (f : StopForm) (s : State) : Host.Outcome State Fault Refusal :=
  .next (viaLink (.loadStop tag f) (takeLoadStop tag f s) s)

/-- CLEAR_STOPS at the link. -/
def execClearStops (tag : Byte) (s : State) : Host.Outcome State Fault Refusal :=
  .next (viaLink (.clearStops tag) (takeClearStops tag s) s)

/-- STOP_REQUEST at the link. -/
def execStopRequest (tag : Byte) (s : State) : Host.Outcome State Fault Refusal :=
  .next (viaLink (.stopRequest tag) (takeStopRequest tag s) s)

/-- GET_STOP at the link. -/
def execGetStop (tag : Byte) (index : Nat) (s : State) : Host.Outcome State Fault Refusal :=
  .next (viaLink (.getStop tag index) (takeGetStop tag index s) s)

/-- The STOP_REQ line goes active (R102). -/
def execStopReqActiveEdge (s : State) : Host.Outcome State Fault Refusal :=
  .next (
    if s.op.state = .run then
      match s.nextStop with
      | some i => setLatch i s
      | none => s
    else s)

/-- The door opens (R104). -/
def execDoorOpeningEdge (s : State) : Host.Outcome State Fault Refusal :=
  .next (
    if s.op.state = .run then
      match s.doorStop with
      | some (i, t) => if 100 * t.arrival ≤ s.route.odo + 50000 then openDoor i t s else s
      | none => s
    else s)

end Sys2Proof.Machine
end

