-- ==== Sys2Proof/Machine/Voice.lean ====
section
/-! DEFINITION. The preemption unit's commands (Chapter 5): GUIDE_ON, GUIDE_OFF, and the edges and timer
of the PTT and GMIC lines. -/

namespace Sys2Proof.Machine

/-! ## The guide (R84 to R87) -/

/-- The tests of GUIDE_ON in order (R85). -/
def State.guideOnRefusal (s : State) (mask : Nat) : Option RefuseCode :=
  firstFail [
    ((someProgs mask).isSome, .range),
    (decide (s.op.state = .run), .state),
    ((someProgs mask).all (fun m => decide (m &&& ~~~ s.enabledMask = 0)), .range),
    (s.voice.mic, .noMic),
    ((someProgs mask).all (fun m => decide (m &&& s.voice.guide = 0)), .duplicate)]

/-- One guide request: the state and the set of programmes that entered LIVE so far. -/
def guideRequest (x : State × ProgMask) (p : Prog) : State × ProgMask :=
  let r := request p .guide x.1
  (r.1, if r.2 = .started then Mask.insert x.2 p else x.2)

/-- GUIDE_ON (R85). -/
def takeGuideOn (tag : Byte) (mask : Nat) (s : State) : State :=
  match s.guideOnRefusal mask, someProgs mask with
  | some code, _ => refuse 0x30 tag code s
  | none, some m =>
    let a := { s with voice := { s.voice with guide := s.voice.guide ||| m } }
    let b := (Mask.members m).foldl guideRequest (a, 0)
    ack 0x30 tag (.guideOn a.voice.guide b.2) b.1
  | none, none => refuse 0x30 tag .range s

/-- A programme leaves the guide mask and its guide item is removed (R81, R86). -/
def removeGuide (p : Prog) (s : State) : State :=
  let a := { s with voice := { s.voice with guide := Mask.erase s.voice.guide p } }
  if (a.prog p).active = some .guide then endActive p a
  else a.mapProg p fun x => { x with stack := x.stack.filter fun e => decide (e ≠ .guide) }

/-- GUIDE_OFF (R86). -/
def takeGuideOff (tag : Byte) (mask : Nat) (s : State) : State :=
  match someProgs mask with
  | none => refuse 0x31 tag .range s
  | some m =>
    let gone := m &&& s.voice.guide
    let a := ack 0x31 tag (.guideOff gone (s.voice.guide &&& ~~~ m)) s
    settleAnnouncement (forAll (Mask.members gone) removeGuide a)

/-! ## The driver's PA (R89 to R92) -/

/-- One driver PA request (R90). -/
def driverRequest (p : Prog) (s : State) : State :=
  if (s.prog p).enabled then (request p .driver s).1 else s

/-- Driver PA starts (R90). -/
def startPa (s : State) : State :=
  forAll allProgs driverRequest { s with voice := { s.voice with pa := .on, ptt := some 60000 } }

/-- One programme's driver PA item ends, with the next choice (R91). -/
def endDriver (p : Prog) (s : State) : State :=
  if (s.prog p).active = some .driver then endActive p s else s

/-- The driver PA items of every programme end (R91). The players make their next choices in the order P0
to P11, DESIGN CHOICE (assumption 31). -/
def endPa (s : State) : State := settleAnnouncement (forAll allProgs endDriver s)

/-! ## The commands -/

/-- GUIDE_ON at the link. -/
def execGuideOn (tag : Byte) (mask : Nat) (s : State) : Host.Outcome State Fault Refusal :=
  .next (viaLink (.guideOn tag mask) (takeGuideOn tag mask s) s)

/-- GUIDE_OFF at the link. -/
def execGuideOff (tag : Byte) (mask : Nat) (s : State) : Host.Outcome State Fault Refusal :=
  .next (viaLink (.guideOff tag mask) (takeGuideOff tag mask s) s)

/-- The PTT line goes active (R89). -/
def execPttActiveEdge (s : State) : Host.Outcome State Fault Refusal :=
  .next (if s.voice.pa = .off ∧ s.op.state = .run then startPa s else s)

/-- The PTT line goes inactive (R89, R91, R92). -/
def execPttInactiveEdge (s : State) : Host.Outcome State Fault Refusal :=
  .next (
    match s.voice.pa with
    | .off => s
    | .on => endPa { s with voice := { s.voice with pa := .off, ptt := none } }
    | .stuck => { s with voice := { s.voice with pa := .off } })

/-- The PTT timer expires; it runs in ON alone (R92). -/
def execPttTimerExpiry (s : State) : Host.Outcome State Fault Refusal :=
  .next (
    if s.voice.pa = .on ∧ s.voice.ptt.isSome then
      endPa (notify .paStuck { s with voice := { s.voice with pa := .stuck, ptt := none } })
    else s)

/-- The GMIC line goes active (R87). -/
def execGmicRisingEdge (s : State) : Host.Outcome State Fault Refusal :=
  .next { s with voice := { s.voice with mic := true } }

/-- The GMIC line goes inactive (R87). -/
def execGmicFallingEdge (s : State) : Host.Outcome State Fault Refusal :=
  .next (
    let a := { s with voice := { s.voice with mic := false } }
    if s.voice.guide = 0 then a
    else
      settleAnnouncement
        (forAll (Mask.members s.voice.guide) removeGuide (notify (.guideLost s.voice.guide) a)))

end Sys2Proof.Machine
end

