-- ==== Sys2Proof/Machine/Requests.lean ====
section
/-! DEFINITION. The hand-over of a request from the request queue to its owning block (R171). -/

namespace Sys2Proof.Machine

/-- A request as its owning block takes it. An event is no request and changes nothing here. -/
def takeRequest (i : Instr) (s : State) : State :=
  match i with
  | .hello tag => takeHello tag s
  | .getStatus tag => takeGetStatus tag s
  | .setup tag pairs => takeSetup tag pairs s
  | .getSetup tag => takeGetSetup tag s
  | .linkRate tag code => takeLinkRate tag code s
  | .restart tag => takeRestart tag s
  | .setState tag target => takeSetState tag target s
  | .position tag d v a => takePosition tag d v a s
  | .routeReset tag start => takeRouteReset tag start s
  | .getRoute tag => takeGetRoute tag s
  | .defineClip tag clip kind byte3 first count marks => takeDefineClip tag clip kind byte3 first count marks s
  | .deleteClip tag clip => takeDeleteClip tag clip s
  | .getClip tag clip => takeGetClip tag clip s
  | .storeResume tag => takeStoreResume tag s
  | .programmeSet tag prog enabled language trim bed => takeProgrammeSet tag prog enabled language trim bed s
  | .getProgramme tag prog => takeGetProgramme tag prog s
  | .queueSegment tag form => takeQueueSegment tag form s
  | .cancelSegment tag id => takeCancelSegment tag id s
  | .openGroup tag form => takeOpenGroup tag form s
  | .closeGroup tag id => takeCloseGroup tag id s
  | .getGroup tag id => takeGetGroup tag id s
  | .guideOn tag mask => takeGuideOn tag mask s
  | .guideOff tag mask => takeGuideOff tag mask s
  | .loadStop tag form => takeLoadStop tag form s
  | .clearStops tag => takeClearStops tag s
  | .stopRequest tag => takeStopRequest tag s
  | .getStop tag index => takeGetStop tag index s
  | .bedStart tag clip gain => takeBedStart tag clip gain s
  | .bedStop tag => takeBedStop tag s
  | .bedLevel tag gain => takeBedLevel tag gain s
  | .speakerSet tag feed source filter level bed => takeSpeakerSet tag feed source filter level bed s
  | .getMixer tag => takeGetMixer tag s
  | .nodeSet tag node declared deck => takeNodeSet tag node declared deck s
  | .jackSet tag jack prog volume => takeJackSet tag jack prog volume s
  | .getJack tag jack => takeGetJack tag jack s
  | .zones tag op mask level fade => takeZonesRequest tag op mask level fade s
  | .zoneSet tag zone onLevel night => takeZoneSet tag zone onLevel night s
  | .defineCue tag cue passes steps => takeDefineCue tag cue passes steps s
  | .runCue tag cue => takeRunCue tag cue s
  | .stopCue tag player => takeStopCue tag player s
  | .lightsClearFault tag => takeLightsClearFault tag s
  | .getZones tag => takeGetZones tag s
  | .hardReset _ _ _ => s
  | .ignRisingEdge => s
  | .ignFallingEdge => s
  | .ignOffTimerExpiry => s
  | .inactivityTimerExpiry => s
  | .ampSettleTimerExpiry => s
  | .doorOpeningEdge => s
  | .stopReqActiveEdge => s
  | .pttActiveEdge => s
  | .pttInactiveEdge => s
  | .pttTimerExpiry => s
  | .gmicRisingEdge => s
  | .gmicFallingEdge => s
  | .lampFaultActiveEdge => s
  | .extrapolationPeriod => s
  | .staleTimerExpiry => s
  | .reportAgeTick => s
  | .storeGrant => s
  | .readCompletion _ _ => s
  | .readMonitorExpiry => s
  | .playerBlockPeriod _ => s
  | .mixerBlockPeriod _ _ => s
  | .holdTimerExpiry _ => s
  | .liftTimerExpiry => s
  | .pollSend => s
  | .seatReply _ => s
  | .responseTimerExpiry _ => s
  | .roundTimerExpiry => s
  | .fadeClockTick => s
  | .stepTimerExpiry _ => s
  | .lampSettleExpiry => s
  | .offTimerExpiry => s
  | .ambientSample _ => s
  | .byteArrival _ => s
  | .receiverByte => s
  | .gapTimerExpiry => s
  | .requestHandover => s
  | .frameSendBegin => s
  | .frameSendEnd => s
  | .lampFaultInactiveEdge => s

/-- The request at the head of the request queue handed over, or refused by the link with BAD_KIND or
BAD_LENGTH (R171). -/
def handOver (f : Frame) (s : State) : State :=
  match decodeRequest f with
  | .ok i => takeRequest i s
  | .error code => refuse f.kind f.tag code s

/-- REQUEST_HANDOVER: made while a request waits, the reply queue has room and no RESTART is pending
(R171). -/
def execRequestHandover (s : State) : Host.Outcome State Fault Refusal :=
  .next (
    match s.link.requests with
    | f :: rest =>
      if s.link.mayHand then handOver f { s with link := { s.link with requests := rest } } else s
    | [] => s)

end Sys2Proof.Machine
end

