-- ==== Sys2Proof/Machine/Dispatch.lean ====
section
/-! DEFINITION. The meaning of every command: one arm per constructor of `Instr`. -/

namespace Sys2Proof.Machine

def exec (i : Instr) (s : State) : Host.Outcome State Fault Refusal :=
  match i with
  | .hello tag => Sys2Proof.Machine.execHello tag s
  | .getStatus tag => Sys2Proof.Machine.execGetStatus tag s
  | .setup tag pairs => Sys2Proof.Machine.execSetup tag pairs s
  | .getSetup tag => Sys2Proof.Machine.execGetSetup tag s
  | .linkRate tag code => Sys2Proof.Machine.execLinkRate tag code s
  | .restart tag => Sys2Proof.Machine.execRestart tag s
  | .setState tag target => Sys2Proof.Machine.execSetState tag target s
  | .position tag d v a => Sys2Proof.Machine.execPosition tag d v a s
  | .routeReset tag start => Sys2Proof.Machine.execRouteReset tag start s
  | .getRoute tag => Sys2Proof.Machine.execGetRoute tag s
  | .defineClip tag clip kind byte3 first count marks => Sys2Proof.Machine.execDefineClip tag clip kind byte3 first count marks s
  | .deleteClip tag clip => Sys2Proof.Machine.execDeleteClip tag clip s
  | .getClip tag clip => Sys2Proof.Machine.execGetClip tag clip s
  | .storeResume tag => Sys2Proof.Machine.execStoreResume tag s
  | .programmeSet tag prog enabled language trim bed => Sys2Proof.Machine.execProgrammeSet tag prog enabled language trim bed s
  | .getProgramme tag prog => Sys2Proof.Machine.execGetProgramme tag prog s
  | .queueSegment tag form => Sys2Proof.Machine.execQueueSegment tag form s
  | .cancelSegment tag id => Sys2Proof.Machine.execCancelSegment tag id s
  | .openGroup tag form => Sys2Proof.Machine.execOpenGroup tag form s
  | .closeGroup tag id => Sys2Proof.Machine.execCloseGroup tag id s
  | .getGroup tag id => Sys2Proof.Machine.execGetGroup tag id s
  | .guideOn tag mask => Sys2Proof.Machine.execGuideOn tag mask s
  | .guideOff tag mask => Sys2Proof.Machine.execGuideOff tag mask s
  | .loadStop tag form => Sys2Proof.Machine.execLoadStop tag form s
  | .clearStops tag => Sys2Proof.Machine.execClearStops tag s
  | .stopRequest tag => Sys2Proof.Machine.execStopRequest tag s
  | .getStop tag index => Sys2Proof.Machine.execGetStop tag index s
  | .bedStart tag clip gain => Sys2Proof.Machine.execBedStart tag clip gain s
  | .bedStop tag => Sys2Proof.Machine.execBedStop tag s
  | .bedLevel tag gain => Sys2Proof.Machine.execBedLevel tag gain s
  | .speakerSet tag feed source filter level bed => Sys2Proof.Machine.execSpeakerSet tag feed source filter level bed s
  | .getMixer tag => Sys2Proof.Machine.execGetMixer tag s
  | .nodeSet tag node declared deck => Sys2Proof.Machine.execNodeSet tag node declared deck s
  | .jackSet tag jack prog volume => Sys2Proof.Machine.execJackSet tag jack prog volume s
  | .getJack tag jack => Sys2Proof.Machine.execGetJack tag jack s
  | .zones tag op mask level fade => Sys2Proof.Machine.execZones tag op mask level fade s
  | .zoneSet tag zone onLevel night => Sys2Proof.Machine.execZoneSet tag zone onLevel night s
  | .defineCue tag cue passes steps => Sys2Proof.Machine.execDefineCue tag cue passes steps s
  | .runCue tag cue => Sys2Proof.Machine.execRunCue tag cue s
  | .stopCue tag player => Sys2Proof.Machine.execStopCue tag player s
  | .lightsClearFault tag => Sys2Proof.Machine.execLightsClearFault tag s
  | .getZones tag => Sys2Proof.Machine.execGetZones tag s
  | .hardReset gmic ign lampFault => Sys2Proof.Machine.execHardReset gmic ign lampFault s
  | .ignRisingEdge => Sys2Proof.Machine.execIgnRisingEdge s
  | .ignFallingEdge => Sys2Proof.Machine.execIgnFallingEdge s
  | .ignOffTimerExpiry => Sys2Proof.Machine.execIgnOffTimerExpiry s
  | .inactivityTimerExpiry => Sys2Proof.Machine.execInactivityTimerExpiry s
  | .ampSettleTimerExpiry => Sys2Proof.Machine.execAmpSettleTimerExpiry s
  | .doorOpeningEdge => Sys2Proof.Machine.execDoorOpeningEdge s
  | .stopReqActiveEdge => Sys2Proof.Machine.execStopReqActiveEdge s
  | .pttActiveEdge => Sys2Proof.Machine.execPttActiveEdge s
  | .pttInactiveEdge => Sys2Proof.Machine.execPttInactiveEdge s
  | .pttTimerExpiry => Sys2Proof.Machine.execPttTimerExpiry s
  | .gmicRisingEdge => Sys2Proof.Machine.execGmicRisingEdge s
  | .gmicFallingEdge => Sys2Proof.Machine.execGmicFallingEdge s
  | .lampFaultActiveEdge => Sys2Proof.Machine.execLampFaultActiveEdge s
  | .extrapolationPeriod => Sys2Proof.Machine.execExtrapolationPeriod s
  | .staleTimerExpiry => Sys2Proof.Machine.execStaleTimerExpiry s
  | .reportAgeTick => Sys2Proof.Machine.execReportAgeTick s
  | .storeGrant => Sys2Proof.Machine.execStoreGrant s
  | .readCompletion delivery samples => Sys2Proof.Machine.execReadCompletion delivery samples s
  | .readMonitorExpiry => Sys2Proof.Machine.execReadMonitorExpiry s
  | .playerBlockPeriod p => Sys2Proof.Machine.execPlayerBlockPeriod p s
  | .mixerBlockPeriod micGuide micDriver => Sys2Proof.Machine.execMixerBlockPeriod micGuide micDriver s
  | .holdTimerExpiry slot => Sys2Proof.Machine.execHoldTimerExpiry slot s
  | .liftTimerExpiry => Sys2Proof.Machine.execLiftTimerExpiry s
  | .pollSend => Sys2Proof.Machine.execPollSend s
  | .seatReply bytes => Sys2Proof.Machine.execSeatReply bytes s
  | .responseTimerExpiry slot => Sys2Proof.Machine.execResponseTimerExpiry slot s
  | .roundTimerExpiry => Sys2Proof.Machine.execRoundTimerExpiry s
  | .fadeClockTick => Sys2Proof.Machine.execFadeClockTick s
  | .stepTimerExpiry player => Sys2Proof.Machine.execStepTimerExpiry player s
  | .lampSettleExpiry => Sys2Proof.Machine.execLampSettleExpiry s
  | .offTimerExpiry => Sys2Proof.Machine.execOffTimerExpiry s
  | .ambientSample reading => Sys2Proof.Machine.execAmbientSample reading s
  | .byteArrival byte => Sys2Proof.Machine.execByteArrival byte s
  | .receiverByte => Sys2Proof.Machine.execReceiverByte s
  | .gapTimerExpiry => Sys2Proof.Machine.execGapTimerExpiry s
  | .requestHandover => Sys2Proof.Machine.execRequestHandover s
  | .frameSendBegin => Sys2Proof.Machine.execFrameSendBegin s
  | .frameSendEnd => Sys2Proof.Machine.execFrameSendEnd s
  | .lampFaultInactiveEdge => Sys2Proof.Machine.execLampFaultInactiveEdge s

end Sys2Proof.Machine
end

