-- ==== Sys2Proof/Machine/Tick.lean ====
section
/-! DEFINITION. The passing of 1 ms (assumption 2): the present time moves on and every running timer
counts down. A timer that reaches 0 stays there until its expiry comes as a command, or another event
loads it again (`State.overtaken`, which the passing of time clears). The phases of the
free-running periods (block periods, extrapolation, lift, ambient, report age, fade clock) are not
held: their expiries come as commands. -/

namespace Sys2Proof.Machine

/-- A running timer after 1 ms. -/
def ran (t : Option Nat) : Option Nat := t.map fun n => n - 1

/-- The route clock's stale timer, which runs in RUN and TRACKING (R8). -/
def tickRoute (s : State) : RouteClock :=
  if s.op.state = .run ∧ s.route.state = .tracking then { s.route with stale := ran s.route.stale }
  else s.route

/-- A group record whose hold timer, if running, has counted down (R61). -/
def Group.tick (g : Group) : Group := { g with timer := ran g.timer }

/-- The seat loop's response timers and round timer (R137). -/
def Loop.tick (l : Loop) : Loop :=
  { l with
    polls := l.polls.map (fun p => { p with timer := p.timer - 1 }), roundTimer := ran l.roundTimer }

/-- A running cue with its step timer counted down (R151). -/
def CueRun.tick (r : CueRun) : CueRun := { r with timer := r.timer - 1 }

/-- The lighting unit's step timers, settle timer and off timer (R151, R154). -/
def Lamps.tick (l : Lamps) : Lamps :=
  { l with
    stopRun := l.stopRun.map CueRun.tick, sceneRun := l.sceneRun.map CueRun.tick,
    settle := ran l.settle, off := ran l.off }

/-- The operating-state unit's timers (R159). -/
def OpUnit.tick (u : OpUnit) : OpUnit :=
  { u with ignOff := ran u.ignOff, inactivity := ran u.inactivity, settle := ran u.settle }

/-- 1 ms passes. The link's gap timer counts tenths of a microsecond. -/
def tick (s : State) : State :=
  { s with
    route := tickRoute s, store := { s.store with monitor := ran s.store.monitor },
    groups := ⟨s.groups.cells.map fun g => g.map Group.tick⟩,
    voice := { s.voice with ptt := ran s.voice.ptt }, loop := s.loop.tick, lamps := s.lamps.tick,
    op := s.op.tick, link := { s.link with gap := s.link.gap.map fun n => n - 10000 },
    now := s.now + 1, overtaken := [] }

end Sys2Proof.Machine
end

