-- ==== Sys2Proof/Safety.lean ====
section
/-! DEFINITION. What a safe run of the part is, and the other terms the statements use: a free link, a
reply given, a command repeated, and the properties of the state that every step keeps. -/

namespace Sys2Proof.Machine

/-! ## Terms about the link -/

/-- The link may hand a request over now, and none stands before it (R171). -/
def LinkFree (s : State) : Prop :=
  s.link.replies.length < 4 ∧ s.link.restarting = false ∧ s.link.requests = []

/-- The state with one more reply, which makes nothing when it has been sent. -/
def State.answered (s : State) (kind tag : Byte) (answer : Answer) : State :=
  { s with link := { s.link with
      replies := s.link.replies ++ [{ kind, tag, answer, after := .nothing }] } }

/-- The state with one more ACK. -/
def State.acked (s : State) (kind tag : Byte) (data : Ack) : State := s.answered kind tag (.ack data)

/-- The state with one more REFUSE. -/
def State.refused (s : State) (kind tag : Byte) (code : RefuseCode) : State :=
  s.answered kind tag (.refuse code)

/-- The payload lengths the kind table of 12.4 allows. -/
def lengthAllowed (kind n : Nat) : Bool :=
  match kind with
  | 0x03 => decide (n % 5 = 0 ∧ n ≤ 200)
  | 0x05 => decide (n = 1)
  | 0x07 => decide (n = 1)
  | 0x10 => decide (n = 8)
  | 0x11 => decide (n = 4)
  | 0x18 => decide (8 ≤ n ∧ (n - 8) % 2 = 0 ∧ n ≤ 24)
  | 0x19 => decide (n = 2)
  | 0x1A => decide (n = 2)
  | 0x20 => decide (n = 5)
  | 0x21 => decide (n = 1)
  | 0x22 => decide (n = 18)
  | 0x23 => decide (n = 2)
  | 0x28 => decide (n = 14)
  | 0x29 => decide (n = 1)
  | 0x2A => decide (n = 1)
  | 0x30 => decide (n = 2)
  | 0x31 => decide (n = 2)
  | 0x38 => decide (14 ≤ n ∧ (n - 14) % 3 = 0 ∧ n ≤ 50)
  | 0x3B => decide (n = 1)
  | 0x40 => decide (n = 3)
  | 0x42 => decide (n = 1)
  | 0x43 => decide (n = 5)
  | 0x48 => decide (n = 3)
  | 0x49 => decide (n = 3)
  | 0x4A => decide (n = 1)
  | 0x50 => decide (n = 5)
  | 0x51 => decide (n = 3)
  | 0x52 => decide (2 ≤ n ∧ (n - 2) % 6 = 0 ∧ n ≤ 50)
  | 0x53 => decide (n = 1)
  | 0x54 => decide (n = 1)
  | _ => decide (n = 0)

/-- The request kinds of the kind table of 12.4. -/
def kindListed (k : Nat) : Bool :=
  decide (1 ≤ k ∧ k ≤ 0x07) || decide (0x10 ≤ k ∧ k ≤ 0x12) || decide (0x18 ≤ k ∧ k ≤ 0x1B) ||
    decide (0x20 ≤ k ∧ k ≤ 0x23) || decide (0x28 ≤ k ∧ k ≤ 0x2A) || decide (0x30 ≤ k ∧ k ≤ 0x31) ||
    decide (0x38 ≤ k ∧ k ≤ 0x3B) || decide (0x40 ≤ k ∧ k ≤ 0x44) || decide (0x48 ≤ k ∧ k ≤ 0x4A) ||
    decide (0x50 ≤ k ∧ k ≤ 0x56)

/-- A notice stands in the notice queue, or a notice was lost (R174). -/
def Noted (t : State) (n : Notice) : Prop := n ∈ t.link.notices ∨ t.link.lost = true

/-- A notice of a kind about an object stands in the notice queue, or a notice was lost (R174). -/
def Told (t : State) (code object : Nat) : Prop :=
  (∃ n ∈ t.link.notices, n.code = code ∧ n.object = object) ∨ t.link.lost = true

/-- One command carried out a number of times in a row. -/
def execTimes (c : Instr) : Nat → State → Host.Outcome State Fault Refusal
  | 0, s => .next s
  | n + 1, s =>
    match exec c s with
    | .next t => execTimes c n t
    | .fault r => .fault r
    | .refused r => .refused r

/-! ## What every step keeps -/

/-- A step goes on: it answers a next state. -/
def GoesOn (s : State) : Prop := ∃ t, step s = .next t

/-- No zone output is above 0 unless the lamp supply is ON (R154). -/
def LampsSafe (s : State) : Prop := s.lamps.supply ≠ .on → ∀ z, (s.zone z).output = 0

/-- The queues of the link hold at most what R169, R170, R173 and R174 give them. -/
def LinkBounded (s : State) : Prop :=
  rxBytes s.link.rxFifo ≤ 256 ∧ s.link.requests.length ≤ 4 ∧ s.link.replies.length ≤ 4 ∧
    s.link.notices.length ≤ 24

/-- Every jack's current gain code is the one its inputs give (R127, R128). -/
def CodesCurrent (s : State) : Prop := ∀ j, s.code j = s.gainCode j

/-- At least one programme is enabled, and every jack's language names an enabled programme (R134). -/
def LanguagesEnabled (s : State) : Prop :=
  (∃ p, (s.prog p).enabled = true) ∧ ∀ j, (s.prog (s.jack j).language).enabled = true

/-- Every setup item lies within its range, and DARK_THRESHOLD below LIGHT_THRESHOLD (10.5, R146). -/
def SetupInRange (x : Setup) : Prop :=
  x.jumpLimit ≤ 2000 ∧ 1 ≤ x.staleTime ∧ x.staleTime ≤ 30 ∧ x.storeBlocks ≤ 65535 ∧
    x.resumeLimit ≤ 120 ∧ x.passMargin ≤ 200 ∧ (∀ c, x.doorCue = some c → c ≤ 31) ∧
    x.duckDepth ≤ 60 ∧ x.liftSlope ≤ 8 ∧ x.liftMax ≤ 24 ∧ -60 ≤ x.ceiling ∧ x.ceiling ≤ 0 ∧
    x.stepDefault ≤ 15 ∧ x.releaseFade ≤ 10000 ∧ x.lampSettle ≤ 1000 ∧ x.dark < x.light ∧
    x.light ≤ 1023 ∧ x.courtesyLevel ≤ 255

/-- The route clock's fields lie within their ranges (R1, R2). -/
def RouteInRange (r : RouteClock) : Prop :=
  r.est ≤ 100000000 ∧ r.rem ≤ 4 ∧ r.odo ≤ 100000000 ∧ r.speed ≤ 4000 ∧ r.start ≤ 1000000 ∧
    ∀ n, r.age = some n → n ≤ 65535

/-- AMP_EN is on in RUN alone, and each timer of the operating-state unit runs only in its own state
(R159, R160, R162, R163). -/
def OpUnitInStep (u : OpUnit) : Prop :=
  (u.ampEn = true ↔ u.state = .run) ∧ (u.inactivity.isSome = true → u.state = .layover) ∧
    (u.ignOff.isSome = true → u.state = .run ∧ u.ign = false) ∧
    (u.settle.isSome = true → u.state = .run)

/-- Every clip record fits its rule, within the declared store (R18, R19). -/
def ClipsFit (s : State) : Prop :=
  s.clips.wf = true ∧ ∀ n c, s.clip n = some c →
    n ≤ 1023 ∧ 1 ≤ c.count ∧ c.first + c.count ≤ s.setup.storeBlocks ∧ c.marks.length ≤ 8 ∧
      c.marks.Pairwise (· < ·) ∧ ∀ m, m ∈ c.marks → m < c.count

/-- The levels of a player's stack fall from its top entry down, all below the level of the active item
(R76). -/
def StackOrdered (x : Programme) : Prop :=
  (x.stack.map Entry.level).Pairwise (· > ·) ∧ ∀ e, e ∈ x.stack → e.level < x.level

/-- The places of every programme agree: the stack is ordered (R76); a player is IDLE just while it has no
active item (R50); a segment is staged only behind an active segment, ungrouped (R54); a member is primed
on an IDLE player alone (R68), and a WAITING segment is a member (R67); a disabled programme holds nothing
(R41); and while the store is FAILED no place but the queue holds a clip item (R58, R73). -/
def PlacesOrdered (s : State) : Prop :=
  ∀ p,
    let x := s.prog p
    StackOrdered x ∧ (x.player = .idle ↔ x.active = none) ∧
      (∀ g, x.staged = some g →
        g.seg.group = none ∧ ∃ h tag pos, x.active = some (.segment h tag pos)) ∧
      (x.priming.isSome = true → x.player = .idle) ∧
      (∀ g, g ∈ x.queue → g.state = .waiting → g.group ≠ none) ∧
      (x.enabled = false →
        x.active = none ∧ x.staged = none ∧ x.stack = [] ∧ x.queue = [] ∧ x.priming = none) ∧
      (s.store.state = .failed →
        (x.active = none ∨ x.active = some .guide ∨ x.active = some .driver) ∧ x.staged = none ∧
          x.priming = none ∧ ∀ e, e ∈ x.stack → e = .guide)

/-! ## What a reply makes of a jack -/

/-- A programme if it is enabled, else the lowest-numbered enabled one (R135). -/
def State.orLowest (s : State) (p : Prog) : Prog :=
  if (s.prog p).enabled then p
  else ((allProgs.filter fun q => (s.prog q).enabled).head?).getD 0

/-- A jack record after one sense (R141, R142): a sense read twice in a row makes the jack PRESENT, ABSENT
or FAULT; one that becomes PRESENT takes the defaults where it was never assigned, or was ABSENT for at
least 120 s. -/
def State.sensed (s : State) (j : Jack) (x : Sense) : JackRec :=
  let r := { s.jack j with sense := some x }
  if (s.jack j).sense ≠ some x then r
  else
    match x with
    | .headset =>
      if r.state = .present then r
      else if r.assigned = false ∨ (∃ a ∈ r.absentAt, a + 120000 ≤ s.now) then
        { r with
          state := .present, absentAt := none, assigned := true, volume := s.setup.stepDefault,
          language := s.orLowest
            (if (s.node (nodeOf j)).deck = .upper then s.setup.langUpper else s.setup.langLower) }
      else { r with state := .present, absentAt := none }
    | .opened =>
      if r.state = .absent then r
      else { r with state := .absent, absentAt := some (r.absentAt.getD s.now) }
    | .short => if r.state = .fault then r else { r with state := .fault }

/-- A PRESENT jack's record after one button (R143). -/
def State.pressed (s : State) (r : JackRec) (b : Button) : JackRec :=
  match b with
  | .langNext =>
    let on := allProgs.filter fun q => (s.prog q).enabled
    { r with language := ((on.filter fun q => decide (r.language < q)).head?).getD (on.head?.getD r.language) }
  | .volUp => { r with volume := if r.volume < 15 then r.volume + 1 else r.volume }
  | .volDown => { r with volume := r.volume - 1 }

/-- A jack record after a matched reply's sense and, in RUN and PRESENT, its buttons in their order (R138,
R141 to R143); what is pending and acknowledged for the jack apart. -/
def State.answeredJack (s : State) (r : BoxReply) (j : Jack) (pos : Fin 4) : JackRec :=
  let x := s.sensed j (r.senses.getD pos.val .opened)
  if s.op.state = .run ∧ x.state = .present then
    ((r.events.filter fun e => decide (e.1 = pos)).map Prod.snd).foldl s.pressed x
  else x

/-! ## What the readers make of an advance -/

/-- The odometer has reached a distance in dm; an absent one is never reached (R10). -/
def Reached (s : State) (d : Option Nat) : Prop := ∃ c, d = some c ∧ 100 * c ≤ s.route.odo

/-- What the players make of an advance from `s` to `t` (R47): no ungrouped segment whose cancel is
reached waits or stays staged, each one is told, and no ungrouped segment whose trigger is reached stays
QUEUED. The queue of a player that can neither start nor stage, of ungrouped segments alone, keeps just
the others in their order. -/
def PlayersRead (s t : State) : Prop :=
  ∀ p,
    (∀ g, g ∈ (t.prog p).queue ∨ (t.prog p).staged.map Staged.seg = some g → g.group = none →
      ¬Reached t g.cancel) ∧
    (∀ g, g ∈ (t.prog p).queue → g.group = none → g.state = .queued → ¬Reached t g.trigger) ∧
    (∀ g, g ∈ (s.prog p).queue ∨ (s.prog p).staged.map Staged.seg = some g → g.group = none →
      Reached t g.cancel → Told t 0x86 g.id) ∧
    ((s.prog p).player ≠ .idle → (∀ g tag pos, (s.prog p).active ≠ some (.segment g tag pos)) →
      (s.prog p).staged = none → (∀ g, g ∈ (s.prog p).queue → g.group = none) →
      ((s.prog p).queue.map Segment.id).Nodup →
      (t.prog p).queue =
        ((s.prog p).queue.filter fun g => !(g.cancel.any fun c => decide (100 * c ≤ t.route.odo))).map
          fun g => { g with
            state :=
              if g.state = .queued ∧ (g.trigger.any fun c => decide (100 * c ≤ t.route.odo)) = true then
                .eligible
              else g.state })

/-- What the group table makes of an advance from `s` to `t` (R66, R70): an unreleased group whose cancel
is reached ends with its notice, its members leaving their queues; one whose hold timer expires at the
same moment may be released first (assumption 29). A FORMING group whose trigger is reached arms, and with
hold limit 0 is released at once. The others stay as they were, but for the members that leave them. -/
def GroupsRead (s t : State) : Prop :=
  ∀ k g, s.group k = some g →
    (g.state ≠ .released → Reached t g.cancel →
      (¬(g.state = .armed ∧ g.timer = some 0) → t.group k = none ∧ Noted t (.groupEnded g.id .passed) ∧
        ∀ p : Prog, g.enrolled.getLsbD p.val = true →
          ((s.prog p).queue.filter fun h => decide (h.group = some g.id)).length ≤ 1 →
          ∀ h, h ∈ (t.prog p).queue → h.group ≠ some g.id) ∧
      (g.state = .armed → g.timer = some 0 →
        t.group k = none ∨ ∃ u, t.group k = some u ∧ u.id = g.id ∧ u.state = .released)) ∧
    (g.state = .forming → ¬Reached t g.cancel → 100 * g.trigger ≤ t.route.odo →
      ∃ u, t.group k = some u ∧ u.id = g.id ∧
        (0 < g.hold → u.state = .armed ∧ u.timer = some (100 * g.hold)) ∧
        (g.hold = 0 → u.state = .released)) ∧
    (g.state = .released ∨
        (¬Reached t g.cancel ∧ (g.state = .armed ∨ t.route.odo < 100 * g.trigger)) →
      (t.group k).map (fun u => { u with enrolled := 0, ready := 0 }) =
        some { g with enrolled := 0, ready := 0 })

/-- What the stop table makes of an advance from `s` to `t` (R101, R105): a stop whose pass point is reached
is SKIPPED as late, or PASSED where it was announced, arrived or only requested without a request; another
whose announce point is reached is DUE, and announced at once where no announcement is in progress in RUN
with the store READY. The others stay, and each changed stop is told. -/
def StopsRead (s t : State) : Prop :=
  ∀ i,
    (s.stop i = none → t.stop i = none) ∧
    ∀ x, s.stop i = some x →
      let passed := 100 * x.arrival + 1000 * s.setup.passMargin ≤ t.route.odo
      let waits := x.requestOnly = true ∧ x.latch = false
      let due := x.state = .pending ∧ 100 * x.announce ≤ t.route.odo ∧ ¬waits
      (passed → t.stop i = some (
        if x.state = .passed ∨ x.state = .skipped then x
        else if (x.state = .pending ∨ x.state = .due) ∧ ¬waits then
          { x with state := .skipped, skip := some .late }
        else { x with state := .passed, skip := none })) ∧
      (¬passed → due →
        t.stop i = some { x with state := .due, skip := none } ∨
          (s.ann.stop = none ∧ s.op.state = .run ∧ s.store.state = .ready ∧
            (t.stop i = some { x with state := .announcing, skip := none } ∨
              t.stop i = some { x with state := .announced, skip := none }))) ∧
      (¬passed → ¬due →
        t.stop i = some x ∨
          (x.state = .due ∧ s.ann.stop = none ∧ s.op.state = .run ∧ s.store.state = .ready ∧
            (t.stop i = some { x with state := .announcing, skip := none } ∨
              t.stop i = some { x with state := .announced, skip := none }))) ∧
      (t.stop i ≠ s.stop i → Told t 0x8B i.val)

/-- What the three readers make of an advance of the odometer from `s` to `t` (R10). -/
def AdvanceRead (s t : State) : Prop := PlayersRead s t ∧ GroupsRead s t ∧ StopsRead s t

end Sys2Proof.Machine
end

