-- ==== Sys2Proof/Certificates/Slice0/Obligations.lean ====
section
/-! DEFINITION. The statements about the model, for the provers. Each is a property that the spec's rules
give the part; where a clause rests on a choice of the model instead, its docstring names the log entry. -/

open Sys2Proof Sys2Proof.Machine

/-! ## The queue of commands and the step -/

/-- A step takes the command at the front of the queue and carries it out on the state with the rest of
the queue (the model's own queue, assumption 5). -/
def Obligations.StepRunsTheFrontCommand : Prop :=
  ∀ (c : Instr) (rest : List Instr) (s : State), s.pending = c :: rest →
    step s = exec c { s with pending := rest }

/-- A step on an empty queue passes 1 ms: every running timer counts down, the moment in which a reload
overtook an expiry is over, and nothing else changes (the model's choice, assumption 2). -/
def Obligations.IdleStepPassesOneMillisecond : Prop :=
  ∀ s : State, s.pending = [] → ∃ t, step s = .next t ∧ t.now = s.now + 1 ∧ t.overtaken = [] ∧ t.pending = [] ∧
    t.route = { s.route with
      stale := if s.op.state = .run ∧ s.route.state = .tracking then s.route.stale.map (· - 1)
        else s.route.stale } ∧
    t.store = { s.store with monitor := s.store.monitor.map (· - 1) } ∧
    (∀ g, t.group g = (s.group g).map fun r => { r with timer := r.timer.map (· - 1) }) ∧
    t.voice = { s.voice with ptt := s.voice.ptt.map (· - 1) } ∧
    t.loop = { s.loop with
      polls := s.loop.polls.map fun p => { p with timer := p.timer - 1 },
      roundTimer := s.loop.roundTimer.map (· - 1) } ∧
    t.lamps = { s.lamps with
      stopRun := s.lamps.stopRun.map fun r => { r with timer := r.timer - 1 },
      sceneRun := s.lamps.sceneRun.map fun r => { r with timer := r.timer - 1 },
      settle := s.lamps.settle.map (· - 1), off := s.lamps.off.map (· - 1) } ∧
    t.op = { s.op with
      ignOff := s.op.ignOff.map (· - 1), inactivity := s.op.inactivity.map (· - 1),
      settle := s.op.settle.map (· - 1) } ∧
    t.link = { s.link with gap := s.link.gap.map (· - 10000) } ∧
    (t.setup, t.clips, t.chans, t.progs, t.arrivals, t.releases, t.stops, t.ann) =
      (s.setup, s.clips, s.chans, s.progs, s.arrivals, s.releases, s.stops, s.ann) ∧
    (t.mixer, t.nodes, t.jacks, t.zones, t.cues) = (s.mixer, s.nodes, s.jacks, s.zones, s.cues)

/-- Every command goes on to a next state, and no command touches the commands that wait behind it (the
queue is the model's own, assumption 5; the spec describes no event after which the part stops). -/
def Obligations.CommandsCompleteAndKeepTheQueue : Prop :=
  ∀ (c : Instr) (s : State), ∃ t, exec c s = .next t ∧ t.pending = s.pending

/-! ## Frames and requests -/

/-- Decoding the frame that spells a request gives the request back, for every request whose fields fit
their bytes, and the frame's payload is one the link can carry (R168, R178, 12.3, 12.4). -/
def Obligations.RequestFramesDecode : Prop :=
  ∀ (i : Instr) (f : Frame), i.wellFormed = true → encodeRequest i = some f →
    decodeRequest f = .ok i ∧ f.payload.length ≤ 200

/-- The link makes its own two tests of the request at the head of the queue (R171, 12.4): a kind that is no
request kind is refused with BAD_KIND and a payload length that its kind does not allow with BAD_LENGTH,
either leaving the queue, and nothing else changes; a frame that passes both spells a request. The head
request is handed over whenever the reply queue has room and no RESTART is pending: its frame leaves the
queue, and exactly one reply is placed, echoing its kind and tag. Alone in the queue, it acts as the
request itself does at a free link. Where one of the conditions fails, nothing happens. A request that
finds the link not free waits in the request queue as its frame, or is discarded with OVERRUN where that
queue is full (R170; that a request's own command reaches the queue whole is the model's choice,
assumption 6). -/
def Obligations.RequestsAreHandedOverInTurn : Prop :=
  (∀ (f : Frame) (rest : List Frame) (s : State), s.link.requests = f :: rest →
    s.link.replies.length < 4 → s.link.restarting = false →
    (kindListed f.kind.toNat = false →
      exec .requestHandover s = .next
        ({ s with link := { s.link with requests := rest } }.refused f.kind f.tag .badKind)) ∧
    (kindListed f.kind.toNat = true → lengthAllowed f.kind.toNat f.payload.length = false →
      exec .requestHandover s = .next
        ({ s with link := { s.link with requests := rest } }.refused f.kind f.tag .badLength)) ∧
    (kindListed f.kind.toNat = true → lengthAllowed f.kind.toNat f.payload.length = true →
      ∃ i, decodeRequest f = .ok i)) ∧
  (∀ (f : Frame) (rest : List Frame) (s : State), s.link.requests = f :: rest →
    s.link.replies.length < 4 → s.link.restarting = false →
    ∃ (t : State) (r : Reply), exec .requestHandover s = .next t ∧ t.link.requests = rest ∧ r.kind = f.kind ∧ r.tag = f.tag ∧
      t.link.replies.map (fun x => (x.kind, x.tag, x.answer)) =
        s.link.replies.map (fun x => (x.kind, x.tag, x.answer)) ++ [(r.kind, r.tag, r.answer)]) ∧
  (∀ (f : Frame) (i : Instr) (s : State), s.link.requests = [f] → s.link.replies.length < 4 →
    s.link.restarting = false → i.wellFormed = true → encodeRequest i = some f →
    exec .requestHandover s = exec i { s with link := { s.link with requests := [] } }) ∧
  (∀ s : State, s.link.requests = [] ∨ 4 ≤ s.link.replies.length ∨ s.link.restarting = true →
    exec .requestHandover s = .next s) ∧
  ∀ (i : Instr) (f : Frame) (s : State), encodeRequest i = some f →
    4 ≤ s.link.replies.length ∨ s.link.restarting = true ∨ s.link.requests ≠ [] →
    exec i s = .next (
      if s.link.requests.length < 4 then
        { s with link := { s.link with requests := s.link.requests ++ [f] } }
      else
        notify (.linkError .overrun (min 65535 (s.link.overrunErrors + 1)) (some (f.kind, f.tag)))
          { s with link := { s.link with
              overrunErrors := min 65535 (s.link.overrunErrors + 1) } })

/-- A request taken at a free link gives exactly one reply, an ACK or a REFUSE, which echoes its kind and
tag (R171); the replies that waited stay before it. -/
def Obligations.EachRequestGetsOneReply : Prop :=
  ∀ (i : Instr) (f : Frame) (s : State), LinkFree s → encodeRequest i = some f →
    ∃ (t : State) (r : Reply), exec i s = .next t ∧ r.kind = f.kind ∧ r.tag = f.tag ∧
      t.link.replies.map (fun x => (x.kind, x.tag, x.answer)) =
        s.link.replies.map (fun x => (x.kind, x.tag, x.answer)) ++ [(r.kind, r.tag, r.answer)]

/-! ## The link's own commands -/

/-- HELLO, GET_STATUS, GET_ROUTE, GET_PROGRAMME, GET_STOP, GET_MIXER and GET_ZONES report the fields that
R176, R15, R42, R100, R129 and R158 give them, as they stand, and change nothing but the reply queue;
numbers out of range are refused with RANGE, and an empty stop slot with UNKNOWN_ID. Each read request is
answered and changes nothing else (R176). -/
def Obligations.ReadRequestsReport : Prop :=
  ∀ (tag : Byte) (s : State), LinkFree s →
    exec (.hello tag) s = .next (s.acked 0x01 tag (.hello {
      part := 1264, revision := 1,
      capacities := [12, 8, 3] ++ [16, 64, 1024, 8] ++ [16, 64, 8, 32, 8] ++ [4, 4, 24],
      payload := 200, rate := s.link.rate })) ∧
    exec (.getStatus tag) s = .next (s.acked 0x02 tag (.status {
      op := s.op.state, route := s.route.state, store := s.store.state, faults := s.store.faults,
      bed := s.mixer.bedState, pa := s.voice.pa, lost := s.link.lost,
      notices := s.link.notices.length, gap := s.link.gapErrors, check := s.link.checkErrors,
      length := s.link.lengthErrors, overrun := s.link.overrunErrors })) ∧
    exec (.getRoute tag) s = .next (s.acked 0x12 tag (.route {
      state := s.route.state, odoDm := s.route.odo / 100, estDm := s.route.est / 100,
      speed := s.route.speed,
      inForce := if s.op.state = .run ∧ s.route.state = .tracking then s.route.speed else 0,
      start := s.route.start, age := s.route.age })) ∧
    exec (.getMixer tag) s = .next (s.acked 0x44 tag (.mixer {
      bedState := s.mixer.bedState, bedClip := s.mixer.bedClip, bedGain := s.mixer.bedGain,
      ducks := allProgs.map s.mixer.ducks.read, upperDuck := s.mixer.upperDuck,
      lowerDuck := s.mixer.lowerDuck,
      upper := {
        settings := s.mixer.upper, gain := min 0 (s.mixer.upper.level + s.mixer.lift),
        held := decide (s.op.ampEn = false ∨ s.op.settle ≠ none) },
      lower := {
        settings := s.mixer.lower, gain := min 0 s.mixer.lower.level,
        held := decide (s.op.ampEn = false ∨ s.op.settle ≠ none) },
      lift := s.mixer.lift, liftGoal := s.mixer.liftGoal, duckDepth := s.setup.duckDepth,
      liftSlope := s.setup.liftSlope, liftMax := s.setup.liftMax, ceiling := s.setup.ceiling })) ∧
    exec (.getZones tag) s = .next (s.acked 0x56 tag (.zones {
      zones := allZones.map fun z => {
        base := (s.zone z).base, onLevel := (s.zone z).onLevel, nightOnly := (s.zone z).nightOnly,
        owner := (s.zone z).owner, overlay := (s.zone z).overlay, target := (s.zone z).target,
        output := (s.zone z).output },
      stopRun := s.lamps.stopRun, sceneRun := s.lamps.sceneRun, supply := s.lamps.supply,
      faultLine := s.lamps.faultLine, day := s.lamps.day, run := s.lamps.run,
      ambient := s.lamps.ambient })) ∧
    (∀ n, 63 < n → exec (.getStop tag n) s = .next (s.refused 0x3B tag .range)) ∧
    (∀ i : StopIx, s.stop i = none →
      exec (.getStop tag i.val) s = .next (s.refused 0x3B tag .unknownId)) ∧
    (∀ (i : StopIx) (r : Stop), s.stop i = some r →
      exec (.getStop tag i.val) s = .next (s.acked 0x3B tag (.stop {
        index := i, record := r,
        passDm := (100 * r.arrival + 1000 * s.setup.passMargin) / 100,
        masks :=
          if s.ann.stop = some i then
            some (s.ann.participating, s.ann.outstanding, s.ann.heard, s.ann.cut)
          else none }))) ∧
    (∀ n, 11 < n → exec (.getProgramme tag n) s = .next (s.refused 0x21 tag .range)) ∧
    (∀ p : Prog, exec (.getProgramme tag p.val) s = .next (s.acked 0x21 tag (.programme {
      enabled := (s.prog p).enabled, language := (s.prog p).language, trim := (s.prog p).trim,
      bed := (s.prog p).bed, underruns := (s.prog p).underruns, player := (s.prog p).player,
      active := match (s.prog p).active with
        | none => .none
        | some (.segment g _ pos) => .segment g.id (g.chosen.getD .main) pos
        | some (.stop i _ _ pos) => .stop i.stop i.part pos
        | some .guide => .guide
        | some .driver => .driver,
      staged := (s.prog p).staged.map fun g => g.seg.id,
      stack := (s.prog p).stack.reverse.map fun e =>
        match e with
        | .segment g => ⟨0, some g.id, g.resume⟩
        | .guide => ⟨1, none, 0⟩
        | .stop i => ⟨2, some i.stop.val, i.resume⟩,
      queue := (s.prog p).queue.map fun g => (g.id, g.state) }))) ∧
    ∀ (n : Nat) (q : Byte × Instr),
      q ∈ [((0x12 : Byte), Instr.getRoute tag), (0x1A, .getClip tag n), (0x21, .getProgramme tag n),
        (0x2A, .getGroup tag n), (0x3B, .getStop tag n), (0x44, .getMixer tag), (0x4A, .getJack tag n),
        (0x56, .getZones tag), (0x04, .getSetup tag)] →
      ∃ a, exec q.2 s = .next (s.answered q.1 tag a)

/-- LINK_RATE above 3 is refused with RANGE; the rate in force is accepted and changes nothing; another
rate becomes pending, in place of one pending before, and takes effect when this request's ACK has been
sent, not the ACK of an earlier LINK_RATE: the reply alone is marked for it (R167; the marking is the
model's, assumption 24). RESTART is acknowledged first and is then pending (R175). -/
def Obligations.RateAndRestartWaitForTheirReplies : Prop :=
  ∀ (tag : Byte) (s : State), LinkFree s →
    (∀ code, 3 < code → exec (.linkRate tag code) s = .next (s.refused 0x05 tag .range)) ∧
    (s.link.rate ≤ 3 → exec (.linkRate tag s.link.rate) s =
      .next (s.acked 0x05 tag (.rateBefore s.link.rate))) ∧
    (∀ code, code ≤ 3 → code ≠ s.link.rate → ∃ t, exec (.linkRate tag code) s = .next t ∧
      t.link.rate = s.link.rate ∧ t.link.pendingRate = some code ∧
      t.link.replies.map (fun r => (r.kind, r.tag, r.answer)) =
        s.link.replies.map (fun r => (r.kind, r.tag, r.answer)) ++
          [(0x05, tag, .ack (.rateBefore s.link.rate))] ∧
      t.link.replies.map (fun r => decide (r.after = .rateChange)) =
        s.link.replies.map (fun _ => false) ++ [true] ∧
      (∀ r, t.link.tx = some (.reply r) → r.after ≠ .rateChange) ∧
      t = { s with link := { s.link with
        pendingRate := some code, replies := t.link.replies, tx := t.link.tx } }) ∧
    exec (.restart tag) s = .next { s with link := { s.link with
      restarting := true,
      replies := s.link.replies ++ [⟨0x06, tag, .ack (.stateBefore s.op.state), .restart⟩] } }

/-- A byte at the line enters the receive FIFO, or, the FIFO holding 256 bytes, is dropped with one
overflow mark for a run of dropped bytes (R169); in IN_FRAME the gap timer is loaded with the limit of
the rate in force, 347.2 µs halved for each step of the rate code (R167), at each arrival in IN_FRAME, a
dropped byte's included, and at the taking of the start byte (assumption 19). The receiver takes the oldest
entry of its FIFO (R168, R169). In HUNT it discards marks and every byte but 0x5A; the byte 0x5A begins a
frame, loads the inactivity timer in LAYOVER and wakes a dormant part to LAYOVER. In IN_FRAME a length
above 200 abandons the frame with LINK_ERROR, reason LENGTH, and a mark abandons it with reason OVERRUN.
The expiry of the gap timer abandons it with reason GAP. With nothing to take, and with no gap timer
running, nothing happens. A byte or a start byte that comes when the gap or the inactivity timer is due
loads it first, and that expiry does not happen (R168, R162). -/
def Obligations.ReceiverTakesEachEntry : Prop :=
  (∀ (b : Byte) (s : State), s.link.rate ≤ 3 →
    exec (.byteArrival b) s = .next { s with
     overtaken :=
      if s.link.receiver ≠ .hunt ∧ s.link.gap = some 0 ∧ .gap ∉ s.overtaken then
        .gap :: s.overtaken
      else s.overtaken,
     link := { s.link with
      rxFifo :=
        if (s.link.rxFifo.filter fun e => decide (e ≠ .mark)).length < 256 then
          s.link.rxFifo ++ [.byte b]
        else if s.link.rxFifo.getLast? = some .mark then s.link.rxFifo
        else s.link.rxFifo ++ [.mark],
      gap := if s.link.receiver = .hunt then s.link.gap else some (3472 / 2 ^ s.link.rate) } }) ∧
  (∀ s : State, s.link.rxFifo = [] → exec .receiverByte s = .next s) ∧
  (∀ (e : RxEntry) (rest : List RxEntry) (s : State), s.link.rxFifo = e :: rest →
    s.link.receiver = .hunt → e ≠ .byte 0x5A →
    exec .receiverByte s = .next { s with link := { s.link with rxFifo := rest } }) ∧
  (∀ (rest : List RxEntry) (s : State), s.link.rxFifo = .byte 0x5A :: rest →
    s.link.receiver = .hunt → s.link.rate ≤ 3 → ∃ t, exec .receiverByte s = .next t ∧
      t.link = { s.link with
        rxFifo := rest, receiver := .inFrame [] 0, gap := some (3472 / 2 ^ s.link.rate),
        notices := t.link.notices, lost := t.link.lost } ∧
      (s.op.state = .run → t = { s with link := t.link } ∧ t.link.notices = s.link.notices) ∧
      (s.op.state = .layover →
        t = { s with
          link := t.link, op := { s.op with inactivity := some 1800000 },
          overtaken :=
            if s.op.inactivity = some 0 ∧ .inactivity ∉ s.overtaken then
              .inactivity :: s.overtaken
            else s.overtaken } ∧
          t.link.notices = s.link.notices) ∧
      (s.op.state = .dormant → t.op.state = .layover ∧ t.op.inactivity = some 1800000)) ∧
  (∀ (b : Byte) (rest : List RxEntry) (s : State), s.link.rxFifo = .byte b :: rest →
    s.link.receiver = .inFrame [] 0 →
    exec .receiverByte s = .next (
      if 200 < b.toNat then
        notify (.linkError .length (min 65535 (s.link.lengthErrors + 1)) none)
          { s with link := { s.link with
              rxFifo := rest, receiver := .hunt, gap := none,
              lengthErrors := min 65535 (s.link.lengthErrors + 1) } }
      else { s with link := { s.link with rxFifo := rest, receiver := .inFrame [b] b } })) ∧
  (∀ (rest : List RxEntry) (got : List Byte) (sum : Byte) (s : State),
    s.link.rxFifo = .mark :: rest → s.link.receiver = .inFrame got sum →
    exec .receiverByte s = .next (
      notify (.linkError .overrun (min 65535 (s.link.overrunErrors + 1)) none)
        { s with link := { s.link with
            rxFifo := rest, receiver := .hunt, gap := none,
            overrunErrors := min 65535 (s.link.overrunErrors + 1) } })) ∧
  (∀ (n : Nat) (got : List Byte) (sum : Byte) (s : State), .gap ∉ s.overtaken → s.link.gap = some n →
    s.link.receiver = .inFrame got sum →
    exec .gapTimerExpiry s = .next (
      notify (.linkError .gap (min 65535 (s.link.gapErrors + 1)) none)
        { s with link := { s.link with
            receiver := .hunt, gap := none, gapErrors := min 65535 (s.link.gapErrors + 1) } })) ∧
  (∀ s : State, .gap ∉ s.overtaken → s.link.gap = none ∨ s.link.receiver = .hunt →
    exec .gapTimerExpiry s = .next s) ∧
  (∀ s : State, .gap ∈ s.overtaken →
    exec .gapTimerExpiry s = .next { s with overtaken := s.overtaken.erase .gap })

/-- A whole frame in the receive FIFO, taken byte by byte in RUN, comes to the request queue if its bytes
after the start byte sum to 0 and the queue has room; a full queue discards it with OVERRUN, and another
sum with CHECK. Each leaves the receiver in HUNT and takes the frame's bytes alone (R168 to R170). -/
def Obligations.WholeFrameIsReceived : Prop :=
  ∀ (kind tag check : Byte) (payload : List Byte) (rest : List RxEntry) (s : State),
    payload.length ≤ 200 → s.link.receiver = .hunt → s.op.state = .run →
    s.link.rxFifo =
      ([(0x5A : Byte), BitVec.ofNat 8 payload.length, kind, tag] ++ payload ++ [check]).map .byte ++
        rest →
    execTimes .receiverByte (payload.length + 5) s = .next (
      let t := { s with link := { s.link with rxFifo := rest, gap := none } }
      if BitVec.ofNat 8 payload.length + kind + tag + payload.foldl (· + ·) 0 + check = 0 then
        if s.link.requests.length < 4 then
          { t with link := { t.link with requests := s.link.requests ++ [⟨kind, tag, payload⟩] } }
        else
          notify (.linkError .overrun (min 65535 (s.link.overrunErrors + 1)) (some (kind, tag)))
            { t with link := { t.link with
                overrunErrors := min 65535 (s.link.overrunErrors + 1) } }
      else
        notify (.linkError .check (min 65535 (s.link.checkErrors + 1)) (some (kind, tag)))
          { t with link := { t.link with checkErrors := min 65535 (s.link.checkErrors + 1) } })

/-- While TXD is idle the transmitter takes the oldest reply, or else the oldest notice, which carries
the lost flag and clears it; the frame leaves its queue as its sending begins (R173, R174). The end of a
frame frees TXD; the end of an ACK that a change of rate waits for makes the change, with the receiver in
HUNT and the receive FIFO emptied (R167). ATN is asserted while the notice queue holds a notice, and CTS
while the request queue has room (R170, R174). The bytes of a frame are those of R168 and R179: a refusal
is its code alone, an ACK without result fields 0x00 alone, a notice without fields its flags byte alone,
and a programme mask two bytes, the low one first (R178). That GUIDE_OFF's removed mask stands before its
guide mask is the model's choice (assumption 18). -/
def Obligations.FramesAreSentRepliesFirst : Prop :=
  (∀ s : State, s.link.tx.isSome = true → exec .frameSendBegin s = .next s) ∧
  (∀ (r : Reply) (rest : List Reply) (s : State), s.link.tx = none → s.link.replies = r :: rest →
    exec .frameSendBegin s =
      .next { s with link := { s.link with tx := some (.reply r), replies := rest } }) ∧
  (∀ (n : Notice) (rest : List Notice) (s : State), s.link.tx = none → s.link.replies = [] →
    s.link.notices = n :: rest →
    exec .frameSendBegin s = .next { s with link := { s.link with
      tx := some (.notice n s.link.lost), notices := rest, lost := false } }) ∧
  (∀ s : State, s.link.tx = none → s.link.replies = [] → s.link.notices = [] →
    exec .frameSendBegin s = .next s) ∧
  (∀ s : State, s.link.tx = none → exec .frameSendEnd s = .next s) ∧
  (∀ (f : TxFrame) (s : State), s.link.tx = some f → (∀ r, f = .reply r → r.after = .nothing) →
    exec .frameSendEnd s = .next { s with link := { s.link with tx := none } }) ∧
  (∀ (r : Reply) (code : Nat) (s : State), s.link.tx = some (.reply r) → r.after = .rateChange →
    s.link.pendingRate = some code →
    exec .frameSendEnd s = .next { s with link := { s.link with
      tx := none, rate := code, pendingRate := none, receiver := .hunt, gap := none,
      rxFifo := [] } }) ∧
  (∀ s : State, (s.atn = true ↔ s.link.notices ≠ []) ∧
    (s.cts = true ↔ s.link.requests.length < 4)) ∧
  ∀ f : TxFrame, ∃ (kind tag check : Byte) (payload : List Byte), payload.length ≤ 200 ∧
    f.bytes = 0x5A :: BitVec.ofNat 8 payload.length :: kind :: tag :: (payload ++ [check]) ∧
    BitVec.ofNat 8 payload.length + kind + tag + payload.foldl (· + ·) 0 + check = 0 ∧
    (∀ r, f = .reply r → kind = r.kind ∧ tag = r.tag ∧
      (r.answer = .ack .empty → payload = [0x00]) ∧
      (∀ data, r.answer = .ack data → payload.head? = some 0x00) ∧
      (∀ removed mask : ProgMask, r.answer = .ack (.guideOff removed mask) →
        payload = [0x00, BitVec.ofNat 8 removed.toNat, BitVec.ofNat 8 (removed.toNat / 256),
          BitVec.ofNat 8 mask.toNat, BitVec.ofNat 8 (mask.toNat / 256)]) ∧
      (∀ (code : RefuseCode) (b : Byte), (code, b) ∈
          [(RefuseCode.badKind, (0x01 : Byte)), (.badLength, 0x02), (.range, 0x03), (.state, 0x04),
            (.full, 0x05), (.duplicate, 0x06), (.unknownId, 0x07), (.inUse, 0x08),
            (.notMember, 0x09), (.noMic, 0x0A), (.noStore, 0x0B), (.order, 0x0C), (.passed, 0x0D),
            (.last, 0x0E)] →
        r.answer = .refuse code → payload = [b]) ∧
      (∀ item, r.answer = .refuseItem item → payload = [0x03, BitVec.ofNat 8 item])) ∧
    ∀ (n : Notice) (lost : Bool), f = .notice n lost → kind = BitVec.ofNat 8 n.code ∧ tag = 0 ∧
      payload.head? = some (if lost then 1 else 0) ∧
      (n = .paStuck ∨ n = .lampFault → payload.length = 1) ∧
      (∀ mask : ProgMask, n = .guideLost mask → payload.drop 1 =
        [BitVec.ofNat 8 mask.toNat, BitVec.ofNat 8 (mask.toNat / 256)])

/-- The end of RESTART's ACK makes the restart (R164, R175): the run state of every block is cleared, the
part is in LAYOVER with its timers and AMP_EN as R164 states, the link's queues and error counts are
cleared, and the setup items, clips, cues, node declarations, programme records, languages and steps,
rate and receiver are kept. That a stop whose announce point lies at 0 is DUE, and that no notice of a stop
is placed, is the model's reading of R14, R111 and R175 (assumption 25). -/
def Obligations.RestartIsMade : Prop :=
  ∀ (r : Reply) (s : State), s.link.tx = some (.reply r) → r.after = .restart →
    ∃ t, exec .frameSendEnd s = .next t ∧
      t.link = { s.link with
        tx := none, requests := [], notices := [], lost := false, restarting := false,
        gapErrors := 0, checkErrors := 0, lengthErrors := 0, overrunErrors := 0 } ∧
      t.op = { s.op with
        state := .layover, ampEn := false, settle := none, ignOff := none,
        inactivity := some 1800000 } ∧
      t.route = ⟨0, 0, 0, 0, .unset, none, 0, none⟩ ∧
      t.store = ⟨.ready, 0, 12, none⟩ ∧
      (∀ c, t.chan c = { s.chan c with
        state := .idle, current := none, remaining := 0, staged := none, fifo := [],
        inFlight := none }) ∧
      (∀ p, (t.prog p).enabled = (s.prog p).enabled ∧ (t.prog p).language = (s.prog p).language ∧
        (t.prog p).trim = (s.prog p).trim ∧ (t.prog p).bed = (s.prog p).bed ∧
        (t.prog p).underruns = 0 ∧ (t.prog p).player = .idle ∧ (t.prog p).active = none ∧
        (t.prog p).staged = none ∧ (t.prog p).stack = [] ∧ (t.prog p).queue = []) ∧
      (∀ g, t.group g = none) ∧
      t.voice = { s.voice with guide := 0, pa := .off, ptt := none } ∧
      (∀ i, t.stop i = (s.stop i).map fun x => { x with
        latch := false, skip := none,
        state :=
          if x.arrival = 0 then .passed
          else if x.announce = 0 ∧ x.requestOnly = false then .due
          else .pending }) ∧
      t.ann = ⟨none, 0, 0, 0, 0⟩ ∧
      t.mixer = { s.mixer with
        bedState := .off, bedClip := none, bedTag := none, bedPos := 0, ducks := .fill 12 0,
        upperDuck := 0, lowerDuck := 0, lift := 0, liftGoal := 0, codes := .fill 64 .mute } ∧
      (∀ n, t.node n = if (s.node n).declared then { s.node n with state := .online, misses := 0 }
        else s.node n) ∧
      (∀ j, (t.jack j).language = (s.jack j).language ∧ (t.jack j).volume = (s.jack j).volume ∧
        (t.jack j).state = .unknown ∧ (t.jack j).assigned = false ∧ (t.jack j).absentAt = none ∧
        (t.jack j).confirmed = none) ∧
      t.loop.polls = [] ∧ t.loop.round = 0 ∧ t.loop.roundTimer = some 1000 ∧
      t.lamps.stopRun = none ∧ t.lamps.sceneRun = none ∧
      t.lamps.day = s.lamps.day ∧ t.lamps.run = s.lamps.run ∧
      (∀ z, (t.zone z).owner = none ∧ (t.zone z).base = (s.zone z).base ∧
        ((s.zone z).owner ≠ none → (t.zone z).overlay = none)) ∧
      (t.setup, t.clips, t.cues, t.now, t.pending) = (s.setup, s.clips, s.cues, s.now, s.pending)

/-- A notice placed in the notice queue replaces one of its kind and object in its place, or else enters
the tail while the queue holds fewer than 24, or else is lost and the lost flag set; nothing else changes
(R174). -/
def Obligations.NoticesCoalesceOrAreLost : Prop :=
  (∀ (n m : Notice) (front back : List Notice) (s : State),
    s.link.notices = front ++ m :: back → n.code = m.code → n.object = m.object →
    (∀ x, x ∈ front → ¬(x.code = n.code ∧ x.object = n.object)) →
    notify n s = { s with link := { s.link with notices := front ++ n :: back } }) ∧
  (∀ (n : Notice) (s : State),
    (∀ x, x ∈ s.link.notices → ¬(x.code = n.code ∧ x.object = n.object)) →
    notify n s =
      if s.link.notices.length < 24 then
        { s with link := { s.link with notices := s.link.notices ++ [n] } }
      else { s with link := { s.link with lost := true } })

/-! ## The route clock -/

/-- An accepted POSITION sets the estimate, remainder, speed, age and state of the route clock, raises the
odometer to the estimate where that is ahead, and answers with its outcome (R4 to R7). A jump and a change
to TRACKING are told (R3, R6). An advance is taken by its readers: the players (R47), the group table
(R66, where a hold timer that is due at the same moment may come first, assumption 29) and the stop table
(R101); everything that they do not hold is unchanged. A report that does not raise the odometer changes
the clock and the reply queue alone, with the notice of a change to TRACKING. A report at the very moment
at which the stale timer is due loads it first, and that expiry does not happen (R8). A distance above
1,000,000 dm is refused with RANGE. -/
def Obligations.PositionMovesTheRouteClock : Prop :=
  ∀ (tag : Byte) (d v a : Nat) (s : State), LinkFree s →
    (1000000 < d → exec (.position tag d v a) s = .next (s.refused 0x10 tag .range)) ∧
    (d ≤ 1000000 →
      let e := min 100000000 (100 * d + min v 4000 * min a 2000 / 100)
      let outcome : ReportOutcome :=
        if e ≤ s.route.odo then .held
        else if e - s.route.odo ≤ 1000 * s.setup.jumpLimit then .forward else .jump
      let answer : Answer := .ack (.position outcome (decide (4000 < v ∨ 2000 < a))
        (max s.route.odo e / 100) (e / 100))
      let clock : RouteClock := { s.route with
        est := e, rem := 0, odo := max s.route.odo e, speed := min v 4000, state := .tracking,
        stale := some (1000 * s.setup.staleTime), age := some 0 }
      let overtaken : List Reloaded :=
        if s.route.stale = some 0 ∧ .stale ∉ s.overtaken then .stale :: s.overtaken
        else s.overtaken
      (∃ t, exec (.position tag d v a) s = .next t ∧ t.route = clock ∧ t.overtaken = overtaken ∧
        (outcome = .jump → Noted t (.jump (s.route.odo / 100) (e / 100))) ∧
        (s.route.state ≠ .tracking →
          Noted t (.routeState .tracking (max s.route.odo e / 100))) ∧
        (PlacesOrdered s → s.route.odo < e → AdvanceRead s t) ∧
        t.link = { s.link with
          replies := s.link.replies ++ [⟨0x10, tag, answer, .nothing⟩],
          notices := t.link.notices, lost := t.link.lost } ∧
        (t.setup, t.clips, t.store, t.arrivals, t.voice, t.mixer, t.nodes, t.jacks) =
          (s.setup, s.clips, s.store, s.arrivals, s.voice, s.mixer, s.nodes, s.jacks) ∧
        (t.loop, t.cues, t.op, t.now, t.pending) = (s.loop, s.cues, s.op, s.now, s.pending)) ∧
      (outcome = .held →
        let held := { s with route := clock, overtaken := overtaken }.answered 0x10 tag answer
        exec (.position tag d v a) s = .next (
          if s.route.state = .tracking then held
          else notify (.routeState .tracking (s.route.odo / 100)) held)))

/-- ROUTE_RESET sets the route clock to its start and answers, a change to UNSET with its notice (R12, R3);
it empties every group slot (R73), every queue and every staged slot, and takes the suspended segments out
of every stack, each segment told (R59). Each stop record becomes PASSED where the start has reached its
arrival and else PENDING, its latch clear (R111); one whose announce point is reached and that waits for no
request is then DUE, and announced at once where no announcement is in progress in RUN with the store
READY: a stack holds a segment then only where that announcement preempted the active one. Outside RUN the
announcement record and what is active are as before. A start above 1,000,000 dm is refused with RANGE. -/
def Obligations.RouteResetClearsTheRun : Prop :=
  ∀ (tag : Byte) (start : Nat) (s : State), LinkFree s →
    (1000000 < start →
      exec (.routeReset tag start) s = .next (s.refused 0x11 tag .range)) ∧
    (start ≤ 1000000 → ∃ t, exec (.routeReset tag start) s = .next t ∧
      t.route = ⟨100 * start, 0, 100 * start, 0, .unset, none, start, none⟩ ∧
      t.link = { s.link with
        replies := s.link.replies ++ [⟨0x11, tag, .ack .empty, .nothing⟩],
        notices := t.link.notices, lost := t.link.lost } ∧
      (∀ g, t.group g = none) ∧
      (∀ p, (t.prog p).queue = [] ∧ (t.prog p).staged = none) ∧
      (s.route.state ≠ .unset → Noted t (.routeState .unset start)) ∧
      (∀ p g, g ∈ (s.prog p).queue ∨ (s.prog p).staged.map Staged.seg = some g ∨
        .segment g ∈ (s.prog p).stack → Told t 0x86 g.id) ∧
      (∀ p g, .segment g ∈ (t.prog p).stack → s.ann.stop = none ∧ t.ann.stop ≠ none ∧
        ∃ h tg pos, (s.prog p).active = some (.segment h tg pos) ∧ g.id = h.id) ∧
      (∀ i, s.stop i = none → t.stop i = none) ∧
      (∀ i x, s.stop i = some x → ∃ st,
        t.stop i = some { x with latch := false, skip := none, state := st } ∧
        (x.arrival ≤ start → st = .passed) ∧
        (start < x.arrival → start < x.announce ∨ x.requestOnly = true → st = .pending) ∧
        (start < x.arrival → x.announce ≤ start → x.requestOnly = false →
          st = .due ∨ (s.ann.stop = none ∧ s.op.state = .run ∧ s.store.state = .ready ∧
            (st = .announcing ∨ st = .announced)))) ∧
      (t.setup, t.clips, t.store, t.arrivals, t.voice, t.mixer, t.nodes, t.jacks) =
        (s.setup, s.clips, s.store, s.arrivals, s.voice, s.mixer, s.nodes, s.jacks) ∧
      (s.op.state ≠ .run → t.ann = s.ann ∧ (∀ p, (t.prog p).active = (s.prog p).active) ∧
        ∀ i, t.stop i = (s.stop i).map fun x => { x with
          latch := false, skip := none,
          state :=
            if x.arrival ≤ start then .passed
            else if x.announce ≤ start ∧ x.requestOnly = false then .due
            else .pending }))

/-- In RUN and TRACKING an expiry of the extrapolation period moves the estimate by the speed in force
and raises the odometer to it where that is ahead; otherwise it changes nothing (R9, R2). An
advance is taken by the players, the group table and the stop table (R10, R47, R66, R101; a hold timer due
at the same moment may come first, assumption 29); where the odometer does not grow, the clock alone
changes. The stale timer's expiry in RUN and TRACKING makes the route STALE with its notice, in another
state changes nothing, and does not happen where a report at the same moment has loaded the timer first;
100 ms make a report age one unit older, at most 65,535 (R8, R3). -/
def Obligations.RoutePeriodsMoveTheClock : Prop :=
  ∀ s : State,
    (¬(s.op.state = .run ∧ s.route.state = .tracking) →
      exec .extrapolationPeriod s = .next s) ∧
    (s.op.state = .run → s.route.state = .tracking →
      let e := s.route.est + (s.route.rem + s.route.speed) / 5
      let clock : RouteClock := { s.route with
        est := min 100000000 e,
        rem := if e ≤ 100000000 then (s.route.rem + s.route.speed) % 5 else 0,
        odo := max s.route.odo (min 100000000 e) }
      (∃ t, exec .extrapolationPeriod s = .next t ∧ t.route = clock ∧ t.overtaken = s.overtaken ∧
        (PlacesOrdered s → s.route.odo < clock.odo → AdvanceRead s t) ∧
        (t.setup, t.clips, t.store, t.arrivals, t.voice, t.mixer, t.nodes, t.jacks) =
          (s.setup, s.clips, s.store, s.arrivals, s.voice, s.mixer, s.nodes, s.jacks) ∧
        (t.loop, t.cues, t.op, t.now, t.pending) = (s.loop, s.cues, s.op, s.now, s.pending)) ∧
      (e ≤ s.route.odo → e ≤ 100000000 →
        exec .extrapolationPeriod s = .next { s with route := clock })) ∧
    (s.op.state = .run → s.route.state = .tracking → s.route.stale.isSome = true →
      .stale ∉ s.overtaken →
      exec .staleTimerExpiry s = .next (notify (.routeState .stale (s.route.odo / 100))
        { s with route := { s.route with state := .stale, stale := none } })) ∧
    (¬(s.op.state = .run ∧ s.route.state = .tracking ∧ s.route.stale.isSome = true) →
      .stale ∉ s.overtaken → exec .staleTimerExpiry s = .next s) ∧
    (.stale ∈ s.overtaken → exec .staleTimerExpiry s =
      .next { s with overtaken := s.overtaken.erase .stale }) ∧
    exec .reportAgeTick s = .next { s with route := { s.route with
      age := s.route.age.map fun n => min 65535 (n + 1) } }

/-- Extrapolation does not drift: after any number of periods the estimate has moved by the whole
millimetres of the speed times the number of periods, whatever the remainders between (R9). -/
def Obligations.ExtrapolationHasNoDrift : Prop :=
  ∀ (n : Nat) (s : State), s.op.state = .run → s.route.state = .tracking → s.route.rem ≤ 4 →
    1 ≤ n → s.route.est + (s.route.rem + n * s.route.speed) / 5 ≤ 100000000 →
    ∃ t, execTimes .extrapolationPeriod n s = .next t ∧
      t.route = { s.route with
        est := s.route.est + (s.route.rem + n * s.route.speed) / 5,
        rem := (s.route.rem + n * s.route.speed) % 5,
        odo := max s.route.odo (s.route.est + (s.route.rem + n * s.route.speed) / 5) } ∧
      t.op = s.op

/-- The odometer never decreases but by a route reset, a restart or a hard reset (R2). -/
def Obligations.OdometerNeverDecreases : Prop :=
  ∀ (c : Instr) (s t : State), exec c s = .next t →
    (∀ gmic ign fault, c ≠ .hardReset gmic ign fault) → (∀ tag start, c ≠ .routeReset tag start) →
    (c = .requestHandover → ∀ f rest, s.link.requests = f :: rest → f.kind ≠ 0x11) →
    (c = .frameSendEnd → ∀ r, s.link.tx = some (.reply r) → r.after ≠ .restart) →
    s.route.odo ≤ t.route.odo

/-! ## Clips, channels and the store -/

/-- DEFINE_CLIP makes the tests of R20 in their order, each failing one refused with its code, and else
writes the record whole, new or in place of the old one. That a byte 3 other than 0 is refused with RANGE
is the model's choice (assumption 16). -/
def Obligations.DefineClipWritesTheRecord : Prop :=
  ∀ (tag : Byte) (clip kind byte3 first count : Nat) (marks : List Nat) (s : State), LinkFree s →
    exec (.defineClip tag clip kind byte3 first count marks) s = .next (
      if s.setup.storeBlocks = 0 then s.refused 0x18 tag .noStore
      else if 1023 < clip ∨ 2 < kind ∨ byte3 ≠ 0 then s.refused 0x18 tag .range
      else if count = 0 ∨ s.setup.storeBlocks < first + count then s.refused 0x18 tag .range
      else if 8 < marks.length ∨ ¬marks.Pairwise (· < ·) ∨ ¬(∀ m ∈ marks, m < count) then
        s.refused 0x18 tag .range
      else if s.clip clip ≠ none ∧ 0 < s.uses clip then s.refused 0x18 tag .inUse
      else
        { s with clips := s.clips.put clip {
            kind := if kind = 0 then .speech else if kind = 1 then .chime else .bed,
            first := first, count := count, marks := marks } }.acked 0x18 tag
          (.defined (if s.clip clip = none then .new else .replaced)))

/-- DELETE_CLIP and GET_CLIP make the tests of R21 in their order; DELETE_CLIP then removes the record,
and GET_CLIP reports it with its in-use count. -/
def Obligations.ClipsAreDeletedAndRead : Prop :=
  ∀ (tag : Byte) (clip : Nat) (s : State), LinkFree s →
    exec (.deleteClip tag clip) s = .next (
      if 1023 < clip then s.refused 0x19 tag .range
      else if s.clip clip = none then s.refused 0x19 tag .unknownId
      else if 0 < s.uses clip then s.refused 0x19 tag .inUse
      else { s with clips := s.clips.filter fun e => decide (e.1 ≠ clip) }.acked 0x19 tag .empty) ∧
    (∀ t : State, t.clips = (s.clips.filter fun e => decide (e.1 ≠ clip)) →
      t.clip clip = none ∧ ∀ n, n ≠ clip → t.clip n = s.clip n) ∧
    exec (.getClip tag clip) s = .next (
      if 1023 < clip then s.refused 0x1A tag .range
      else match s.clip clip with
        | none => s.refused 0x1A tag .unknownId
        | some c => s.acked 0x1A tag (.clip clip c (s.uses clip)))

/-- No command but a hard reset redefines or deletes a clip that is in use (R22). -/
def Obligations.ClipsInUseStay : Prop :=
  ∀ (c : Instr) (s t : State) (n : Nat) (k : Clip), exec c s = .next t →
    (∀ gmic ign fault, c ≠ .hardReset gmic ign fault) → s.clip n = some k → 0 < s.uses n →
    t.clip n = some k

/-- While the store port is free, the arbiter grants a standing request: of the URGENT ones, or else of
the others, the first in the cyclic order after the channel last granted (R29, R30). The grant marks the
channel's read in flight, moves the pointer and loads the 5 ms read monitor, and changes nothing else.
While a read is in flight, or no request stands, nothing is granted. -/
def Obligations.ArbiterGrantsInOrder : Prop :=
  ∀ s : State,
    let wants := fun c : Chan => s.store.state = .ready ∧ (s.chan c).state = .run ∧
      (s.chan c).fifo.length ≤ 7 ∧ 0 < (s.chan c).remaining
    let urgent := fun c : Chan => (s.chan c).fifo.length ≤ 2
    let turn := fun c : Chan => (c.val + 12 - s.store.last.val) % 13
    ((∃ c, (s.chan c).inFlight ≠ none) → exec .storeGrant s = .next s) ∧
    ((∀ c, ¬wants c) → exec .storeGrant s = .next s) ∧
    ∀ (c : Chan) (t : Tag) (n : Nat), (∀ d, (s.chan d).inFlight = none) → wants c →
      (urgent c ∨ ∀ d, wants d → ¬urgent d) →
      (∀ d, wants d → (urgent d ↔ urgent c) → turn c ≤ turn d) →
      (s.chan c).current = some t → (s.chan c).clip = some n →
      exec .storeGrant s = .next { s with
        chans := s.chans.write c { s.chan c with inFlight := some {
          tag := t, clip := n, offset := (s.chan c).next,
          block := ((s.clip n).map Clip.first).getD 0 + (s.chan c).next } },
        store := { s.store with last := c, monitor := some 5 } }

/-- A completed read clears the fault count and the read in flight; its block is appended with its
samples where its tag is the channel's current or staged tag, and is discarded otherwise (R31). A read
whose monitor expires, the first or second in a row, is a fault with its notice, and its block is
appended as silence or discarded in the same way (R33, R34). The last block of the item chains to a
staged one, and on F12 the bed loops (R37). Where a group member is being primed on the channel, a
completion that brings its channel to the needed blocks sets its ready bit, and the group whose declared
members are then all ready is released with cause ALL_READY, its ready members starting (R69 to R71); an
expiry is stated for a channel without such a member. Data of a read already abandoned, and an expiry with
no read in flight, change nothing. -/
def Obligations.ReadsLandOnTheirChannel : Prop :=
  (∀ (samples : List Sample) (s : State), exec (.readCompletion .abandoned samples) s = .next s) ∧
  (∀ s : State, (∀ d, (s.chan d).inFlight = none) ∨ s.store.monitor = none →
    exec .readMonitorExpiry s = .next s) ∧
  (∀ (samples : List Sample) (s : State), (∀ d, (s.chan d).inFlight = none) →
    exec (.readCompletion .inFlight samples) s = .next s) ∧
  ∀ (c : Chan) (r : Read) (samples : List Sample) (s : State), (s.chan c).inFlight = some r →
    (∀ d, d ≠ c → (s.chan d).inFlight = none) →
    let unprimed := ∀ p : Prog, p.val = c.val → (s.prog p).priming = none
    let x := { s.chan c with inFlight := none }
    let taken := (s.chan c).current = some r.tag ∨ (s.chan c).staged.map Reload.tag = some r.tag
    let landed := fun b : Block => { x with
      fifo := x.fifo ++ [⟨r.tag, r.offset, b⟩], next := x.next + 1, remaining := x.remaining - 1 }
    let after := fun b : Block =>
      if ¬taken then x
      else if 1 < x.remaining then landed b
      else if c = 12 then
        match x.clip with
        | some n => { landed b with
            next := s.loopPoint n, remaining := s.clipBlocks n - s.loopPoint n }
        | none => landed b
      else
        match x.staged with
        | some q => { landed b with
            current := some q.tag, clip := some q.clip, next := q.start,
            remaining := s.clipBlocks q.clip - q.start, staged := none }
        | none => landed b
    let landedState := { s with
      chans := s.chans.write c (after samples),
      store := { s.store with monitor := none, faults := 0 } }
    (unprimed → exec (.readCompletion .inFlight samples) s = .next landedState) ∧
    (∀ (p : Prog) (h : Segment) (rest : List Segment) (new : Tag) (k : GroupSlot) (g : Group),
      p.val = c.val → (s.prog p).queue = h :: rest → (s.prog p).priming = some new →
      h.group = some g.id → s.group k = some g →
      (∀ l y, s.group l = some y → y.id = g.id → l = k) →
      let clip := if h.held = some .short then h.short.getD h.main else h.main
      let held := ((after samples).fifo.filter fun b => decide (b.tag = new)).length
      let grows := (s.prog p).player = .idle ∧ g.state = .armed ∧ g.ready.getLsbD p.val = false ∧
        min 2 (s.clipBlocks clip) ≤ held
      let ready := g.ready ||| BitVec.twoPow 12 p.val
      (¬grows → exec (.readCompletion .inFlight samples) s = .next landedState) ∧
      (grows → ready ≠ g.declared → exec (.readCompletion .inFlight samples) s =
        .next { landedState with groups := s.groups.write k (some { g with ready := ready }) }) ∧
      (grows → ready = g.declared → ∃ t, exec (.readCompletion .inFlight samples) s = .next t ∧
        t.group k = some { g with
          ready := ready, state := .released, timer := none, started := ready,
          detached := g.enrolled &&& ~~~ ready, order := s.releases } ∧
        t.releases = s.releases + 1 ∧
        Noted t (.groupReleased g.id .allReady g.declared ready (g.enrolled &&& ~~~ ready)) ∧
        ∀ (q : Prog) (y : Segment) (tail : List Segment) (own : Tag), ready.getLsbD q.val = true →
          (s.prog q).queue = y :: tail → y.group = some g.id → (s.prog q).priming = some own →
          (t.prog q).player = .playing ∧ (t.prog q).priming = none ∧
          (t.prog q).active = some (.segment { y with
            group := none, trigger := some g.trigger, cancel := g.cancel, cueRun := true,
            chosen := y.held, held := none, state := .active } own 0))) ∧
    (unprimed → s.store.monitor.isSome = true → s.store.faults ≤ 1 →
      exec .readMonitorExpiry s = .next (notify
        (.storeFault (s.store.faults + 1) .ready c r.block) { s with
          chans := s.chans.write c (after silentBlock),
          store := { s.store with
            monitor := none, faults := s.store.faults + 1, state := .ready } }))

/-- The third read in a row that its monitor ends makes the store FAILED (R34): every channel is empty
and IDLE, no clip item is active, staged or stacked, the announcement is over and the bed is OFF.
STORE_RESUME reports the store state, clears the fault count and returns a FAILED store to READY; in
READY nothing else changes (R35). What the return starts is left to its readers; it writes none of the
state named here, and with nothing queued and no stop DUE it starts nothing. -/
def Obligations.StoreFailsAndReturns : Prop :=
  (∀ (c : Chan) (r : Read) (s : State), (s.chan c).inFlight = some r →
    (∀ d, d ≠ c → (s.chan d).inFlight = none) → s.store.monitor.isSome = true →
    2 ≤ s.store.faults →
    ∃ t, exec .readMonitorExpiry s = .next t ∧
      t.store = { s.store with state := .failed, faults := 3, monitor := none } ∧
      (∀ d, (t.chan d).state = .idle ∧ (t.chan d).fifo = [] ∧ (t.chan d).current = none ∧
        (t.chan d).staged = none ∧ (t.chan d).inFlight = none) ∧
      (∀ p, (t.prog p).staged = none ∧ (∀ e ∈ (t.prog p).stack, e = .guide) ∧
        ((t.prog p).active = none ∨ (t.prog p).active = some .guide ∨
          (t.prog p).active = some .driver)) ∧
      t.ann.stop = none ∧ t.mixer.bedState = .off ∧ t.mixer.bedClip = none ∧
      t.mixer.bedGain = s.mixer.bedGain) ∧
  ∀ (tag : Byte) (s : State), LinkFree s →
    (s.store.state = .ready → exec (.storeResume tag) s =
      .next ({ s with store := { s.store with faults := 0 } }.acked 0x1B tag
        (.storeBefore .ready))) ∧
    (s.store.state = .failed → ∃ t, exec (.storeResume tag) s = .next t ∧
      t.store = { s.store with state := .ready, faults := 0 } ∧
      t.link = { s.link with
        replies := s.link.replies ++ [⟨0x1B, tag, .ack (.storeBefore .failed), .nothing⟩],
        notices := t.link.notices, lost := t.link.lost } ∧
      (t.route, t.setup, t.clips, t.arrivals, t.voice, t.mixer, t.nodes, t.jacks) =
        (s.route, s.setup, s.clips, s.arrivals, s.voice, s.mixer, s.nodes, s.jacks) ∧
      (t.loop, t.cues, t.op, t.now, t.pending) = (s.loop, s.cues, s.op, s.now, s.pending) ∧
      ((∀ p, (s.prog p).queue = []) → (∀ i x, s.stop i = some x → x.state ≠ .due) →
        t.progs = s.progs ∧ t.chans = s.chans ∧ t.stops = s.stops ∧ t.ann = s.ann))

/-! ## Programmes and preemption -/

/-- PROGRAMME_SET refuses a field out of its range with RANGE and the disabling of the only enabled
programme with LAST. Otherwise it writes the four fields, and the gain codes of the programme's jacks are
those of the new trim (R40). With the enabled state as it was, no other programme and nothing of the other
blocks changes. A disabled programme is emptied, leaves the guide mask, has duck value 0, and no jack keeps
its language (R41, R120); an enabled one becomes LIVE on the driver's PA where that is in force. -/
def Obligations.ProgrammeSetWritesTheRecord : Prop :=
  ∀ (tag : Byte) (prog enabled language : Nat) (trim : Int) (bed : Nat) (s : State), LinkFree s →
    (11 < prog ∨ trim < -24 ∨ 24 < trim ∨ 1 < enabled ∨ 1 < bed →
      exec (.programmeSet tag prog enabled language trim bed) s =
        .next (s.refused 0x20 tag .range)) ∧
    ∀ (p : Prog) (e b : Bool), prog = p.val → -24 ≤ trim → trim ≤ 24 → enabled = e.toNat →
      bed = b.toNat →
      (e = false → (∀ q, q ≠ p → (s.prog q).enabled = false) →
        exec (.programmeSet tag prog enabled language trim bed) s =
          .next (s.refused 0x20 tag .last)) ∧
      (e = true ∨ (∃ q, q ≠ p ∧ (s.prog q).enabled = true) → ∃ t,
        exec (.programmeSet tag prog enabled language trim bed) s = .next t ∧
        t.link = { s.link with
          replies := s.link.replies ++ [⟨0x20, tag, .ack .empty, .nothing⟩],
          notices := t.link.notices, lost := t.link.lost } ∧
        (t.prog p).enabled = e ∧ (t.prog p).language = language ∧ (t.prog p).trim = trim ∧
        (t.prog p).bed = b ∧ (t.prog p).underruns = (s.prog p).underruns ∧
        (∀ j, (s.jack j).language = p → t.code j = t.gainCode j) ∧
        (t.route, t.setup, t.clips, t.store, t.arrivals, t.nodes, t.loop, t.cues, t.op, t.pending) =
          (s.route, s.setup, s.clips, s.store, s.arrivals, s.nodes, s.loop, s.cues, s.op,
            s.pending) ∧
        ((s.prog p).enabled = e →
          t.progs = s.progs.write p { s.prog p with
            enabled := e, language := language, trim := trim, bed := b } ∧
          (t.chans, t.groups, t.voice, t.stops, t.ann, t.zones, t.lamps) =
            (s.chans, s.groups, s.voice, s.stops, s.ann, s.zones, s.lamps) ∧
          (∀ j, { t.jack j with update := none } = { s.jack j with update := none }) ∧
          t.link.notices = s.link.notices) ∧
        ((s.prog p).enabled = true → e = false →
          (t.prog p).player = .idle ∧ (t.prog p).active = none ∧ (t.prog p).staged = none ∧
          (t.prog p).stack = [] ∧ (t.prog p).queue = [] ∧ (t.chan (chanOf p)).fifo = [] ∧
          t.voice = { s.voice with guide := s.voice.guide &&& ~~~ BitVec.twoPow 12 p.val } ∧
          t.mixer.ducks.read p = 0 ∧ ∀ j, (t.jack j).language ≠ p) ∧
        ((s.prog p).enabled = false → e = true → s.voice.pa = .on →
          (t.prog p).player = .live ∧ (t.prog p).active = some .driver))

/-- QUEUE_SEGMENT for a programme whose queue is empty (R44, R45). A field out of range is refused with
RANGE, and a request outside RUN or for a disabled programme with STATE. An accepted ungrouped segment
whose trigger is not reached waits alone in the queue. One whose trigger is reached takes the fit test
(R16, R17): without the fit flag, with no PENDING stop announced ahead, or at speed 0 its main clip is
chosen; else the first of its clips whose length, with what is left of the active item, is at most the time
to the next announce point; with none it leaves as NO_FIT, and the ACK says that it is gone. On an IDLE
player, and without a light cue, the segment becomes the active item, its clip loaded on the channel, with
SEGMENT_STARTED (R53); behind an active segment with nothing staged it is staged, chained at once where the
channel has nothing left to fetch (R54, R27). A member of a FORMING group waits in the queue and enrols
its programme (R65). -/
def Obligations.QueuedSegmentsWaitOrStart : Prop :=
  ∀ (tag : Byte) (q : SegmentForm) (s : State), LinkFree s →
    (q.id = 0 ∨ 65535 < q.id ∨ 11 < q.prog ∨ 1023 < q.main ∨ (q.group = none ∧ q.trigger = none) →
      exec (.queueSegment tag q) s = .next (s.refused 0x22 tag .range)) ∧
    (q.inRange = true → s.op.state ≠ .run ∨ (∃ p : Prog, p.val = q.prog ∧ (s.prog p).enabled = false) →
      exec (.queueSegment tag q) s = .next (s.refused 0x22 tag .state)) ∧
    ∀ p : Prog, q.inRange = true → q.prog = p.val → s.op.state = .run →
      (s.prog p).enabled = true → (s.prog p).queue = [] → s.store.state = .ready →
      (∀ c, q.main = c ∨ q.short = some c → ∃ k, s.clip c = some k ∧ k.kind = .speech) →
      (∀ r g, g ∈ (s.prog r).segments → g.id ≠ q.id) →
      let seg : Segment := {
        id := q.id, main := q.main, short := q.short, trigger := q.trigger, cancel := q.cancel,
        group := q.group, fit := decide (q.flags = 1), cue := q.cue, arrival := s.arrivals,
        state := .queued, chosen := none, held := none, resume := 0, since := none, cueRun := false }
      (∀ d, q.group = none → q.trigger = some d →
        (∀ c, q.cancel = some c → d < c ∧ s.route.odo < 100 * c) →
        (s.route.odo < 100 * d → exec (.queueSegment tag q) s = .next ({ s with
            arrivals := s.arrivals + 1,
            progs := s.progs.write p { s.prog p with queue := [seg] } }.acked 0x22 tag
          (.queued (some .queued) (some 0)))) ∧
        (100 * d ≤ s.route.odo →
          let begun := fun (choice : ClipChoice) (clip : Nat) =>
            ∃ t new, exec (.queueSegment tag q) s = .next t ∧
              t.arrivals = s.arrivals + 1 ∧
              t.progs = s.progs.write p { s.prog p with
                player := .priming, priming := none,
                active := some (.segment
                  { seg with state := .active, chosen := some choice, cueRun := true } new 0) } ∧
              t.chans = s.chans.write (chanOf p) { s.chan (chanOf p) with
                state := .run, counter := new, current := some new, clip := some clip, next := 0,
                remaining := s.clipBlocks clip, staged := none, fifo := [] } ∧
              (∀ r, (s.chan (chanOf p)).inFlight = some r → new ≠ r.tag) ∧
              t.link = { (notify (.segmentStarted q.id p choice 0 false) s).link with
                replies := s.link.replies ++
                  [⟨0x22, tag, .ack (.queued (some .active) none), .nothing⟩] }
          let put := fun (choice : ClipChoice) (clip : Nat) =>
            ∃ t new, exec (.queueSegment tag q) s = .next t ∧
              t.arrivals = s.arrivals + 1 ∧
              t.progs = s.progs.write p { s.prog p with
                staged := some ⟨{ seg with state := .staged, chosen := some choice }, new⟩ } ∧
              t.chans = s.chans.write (chanOf p) (
                let c : Channel := { s.chan (chanOf p) with state := .run, counter := new }
                if c.remaining = 0 ∧ (c.inFlight.any fun r => decide (c.current = some r.tag)) = false then
                  { c with
                    current := some new, clip := some clip, next := 0,
                    remaining := s.clipBlocks clip, staged := none }
                else { c with staged := some ⟨clip, 0, new⟩ }) ∧
              t.link = { s.link with replies := s.link.replies ++
                [⟨0x22, tag, .ack (.queued (some .staged) none), .nothing⟩] }
          let fit := fun (w : Nat) (take : ClipChoice → Nat → Prop) =>
            (q.flags = 0 ∨ s.route.state ≠ .tracking ∨ s.route.speed = 0 ∨
                (∀ i x, s.stop i = some x → x.state = .pending →
                  100 * x.announce ≤ s.route.odo) →
              take .main q.main) ∧
            ∀ i x, q.flags = 1 → s.route.state = .tracking → s.route.speed ≠ 0 →
              s.stop i = some x → x.state = .pending → s.route.odo < 100 * x.announce →
              (∀ k y, k < i → s.stop k = some y → y.state = .pending →
                100 * y.announce ≤ s.route.odo) →
              let fits := fun n : Nat => 20 * s.clipBlocks n + w ≤
                (100 * x.announce - s.route.odo) * 100 / s.route.speed
              (fits q.main → take .main q.main) ∧
              (∀ c, ¬fits q.main → q.short = some c → fits c → take .short c) ∧
              (¬fits q.main → (∀ c, q.short = some c → ¬fits c) →
                exec (.queueSegment tag q) s = .next
                  ((notify (.segmentMissed q.id p .noFit .eligible)
                    { s with arrivals := s.arrivals + 1 }).acked 0x22 tag (.queued none none)))
          ((s.prog p).player = .idle → q.cue = none → fit 0 begun) ∧
          ∀ g tg pos, (s.prog p).active = some (.segment g tg pos) →
            (s.prog p).player = .priming ∨ (s.prog p).player = .playing →
            (s.prog p).staged = none →
            fit (20 * (s.clipBlocks g.clip - pos)) put)) ∧
      (∀ k g, q.group = some g.id → s.group k = some g →
        (∀ l h, s.group l = some h → h.id = g.id → l = k) → g.state = .forming →
        g.declared.getLsbD p.val = true → g.enrolled.getLsbD p.val = false →
        (∀ c, g.cancel = some c → s.route.odo < 100 * c) →
        exec (.queueSegment tag q) s = .next ({ s with
            arrivals := s.arrivals + 1,
            progs := s.progs.write p { s.prog p with queue := [seg] },
            groups := s.groups.write k (some { g with
              enrolled := g.enrolled ||| BitVec.twoPow 12 p.val }) }.acked 0x22 tag
          (.queued (some .queued) (some 0))))

/-- CANCEL_SEGMENT refuses ID 0 with RANGE and an ID of no live segment with UNKNOWN_ID; otherwise it
answers with the state the segment had, and the segment leaves the part from whichever place holds it
(R48, R49). -/
def Obligations.CancelledSegmentsLeave : Prop :=
  ∀ (tag : Byte) (s : State), LinkFree s →
    exec (.cancelSegment tag 0) s = .next (s.refused 0x23 tag .range) ∧
    (∀ id, id ≠ 0 → (∀ p g, g ∈ (s.prog p).segments → g.id ≠ id) →
      exec (.cancelSegment tag id) s = .next (s.refused 0x23 tag .unknownId)) ∧
    ∀ (p : Prog) (g : Segment), g.id ≠ 0 →
      (∀ r, r ≠ p → ∀ h ∈ (s.prog r).segments, h.id ≠ g.id) →
      ((s.prog p).segments.filter fun h => decide (h.id = g.id)) = [g] →
      (g ∈ (s.prog p).queue ∧ (g.state = .queued ∨ g.state = .eligible ∨ g.state = .waiting)) ∨
        (g.state = .staged ∧ (s.prog p).staged.map Staged.seg = some g) ∨
        (g.state = .active ∧ ∃ tg pos, (s.prog p).active = some (.segment g tg pos)) ∨
        (g.state = .suspended ∧ .segment g ∈ (s.prog p).stack) →
      ∃ t, exec (.cancelSegment tag g.id) s = .next t ∧
        (∀ r, ∀ h ∈ (t.prog r).segments, h.id ≠ g.id) ∧
        t.link = { s.link with
          replies := s.link.replies ++ [⟨0x23, tag, .ack (.cancelled g.state), .nothing⟩],
          notices := t.link.notices, lost := t.link.lost } ∧
        (t.route, t.setup, t.clips, t.store, t.arrivals, t.voice, t.mixer, t.nodes, t.jacks) =
          (s.route, s.setup, s.clips, s.store, s.arrivals, s.voice, s.mixer, s.nodes, s.jacks) ∧
        (t.loop, t.cues, t.op, t.now, t.pending) = (s.loop, s.cues, s.op, s.now, s.pending)

/-- What a player does at its block period (R50 to R52, R55, R36): an IDLE player is silent, a LIVE one
carries its microphone, a PRIMING one waits for its needed blocks, and one that plays takes the oldest
block of its channel; without a block it is silent and counts an underrun. The last block of a segment
with nothing to follow ends it with SEGMENT_DONE, and the last block of a chime goes on to the language
part. The last block of a stop item of the announcement in progress, with nothing to follow, moves its
programme from the outstanding to the heard mask; with the last outstanding one, and no other stop DUE, the
announcement ends: an ANNOUNCING stop is ANNOUNCED, STOP_STATE carries the masks, and the record is IDLE
(R108, R113). Stated while no announcement waits to be settled. -/
def Obligations.PlayersPlayTheirBlocks : Prop :=
  ∀ (p : Prog) (s : State), s.ann.stop = none ∨ s.ann.outstanding ≠ 0 →
    let x := s.prog p
    let c := s.chan (chanOf p)
    let left := fun rest : List FifoBlock => { c with
      fifo := rest,
      state := if rest = [] ∧ c.current = none ∧ c.staged = none then .idle else c.state }
    (x.player = .idle → exec (.playerBlockPeriod p) s = .next { s with
      progs := s.progs.write p { x with voiced := ⟨.silence, .idle, -1⟩ } }) ∧
    (x.player = .live → x.active = some .guide → exec (.playerBlockPeriod p) s = .next { s with
      progs := s.progs.write p { x with voiced := ⟨.guide, .live, 1⟩ } }) ∧
    (x.player = .live → x.active = some .driver → exec (.playerBlockPeriod p) s = .next { s with
      progs := s.progs.write p { x with voiced := ⟨.driver, .live, 3⟩ } }) ∧
    (∀ e, x.player = .playing → x.active = some e → c.fifo = [] →
      exec (.playerBlockPeriod p) s = .next (notify (.underrun p (min 65535 (x.underruns + 1))) { s with
        progs := s.progs.write p { x with
          underruns := min 65535 (x.underruns + 1), voiced := ⟨.silence, .playing, e.level⟩ } })) ∧
    (∀ g tag pos, x.player = .priming → x.active = some (.segment g tag pos) →
      (c.fifo.filter fun b => decide (b.tag = tag)).length < min 2 (s.clipBlocks g.clip - pos) →
      exec (.playerBlockPeriod p) s = .next { s with
        progs := s.progs.write p { x with voiced := ⟨.silence, .priming, 0⟩ } }) ∧
    (∀ g tag pos b rest, x.active = some (.segment g tag pos) → c.fifo = b :: rest →
      x.player = .playing ∨ (x.player = .priming ∧
        min 2 (s.clipBlocks g.clip - pos) ≤ (c.fifo.filter fun b => decide (b.tag = tag)).length) →
      (pos + 1 < s.clipBlocks g.clip → exec (.playerBlockPeriod p) s = .next { s with
        chans := s.chans.write (chanOf p) (left rest),
        progs := s.progs.write p { x with
          player := .playing, active := some (.segment g tag (pos + 1)),
          voiced := ⟨.clip b.samples, .playing, 0⟩ } }) ∧
      (s.clipBlocks g.clip = pos + 1 → g.group = none → x.staged = none → x.stack = [] →
        x.queue = [] →
        exec (.playerBlockPeriod p) s = .next (notify (.segmentDone g.id p) { s with
          chans := s.chans.write (chanOf p) { c with
            state := .idle, current := none, remaining := 0, staged := none, fifo := [] },
          progs := s.progs.write p { x with
            player := .idle, active := none, voiced := ⟨.clip b.samples, .playing, 0⟩ } }))) ∧
    (∀ i tag next pos b rest, x.player = .playing → x.active = some (.stop i tag (some next) pos) →
      i.part = .chime → i.chime.map s.clipBlocks = some (pos + 1) → c.fifo = b :: rest →
      exec (.playerBlockPeriod p) s = .next { s with
        chans := s.chans.write (chanOf p) (left rest),
        progs := s.progs.write p { x with
          active := some (.stop { i with part := .language, resume := 0 } next none 0),
          voiced := ⟨.clip b.samples, .playing, 2⟩ } }) ∧
    ∀ i tag pos b rest r, x.player = .playing → x.active = some (.stop i tag none pos) →
      s.clipBlocks ((if i.part = .chime then i.chime else i.lang).getD 0) = pos + 1 →
      c.fifo = b :: rest → x.staged = none → x.stack = [] → x.queue = [] →
      s.ann.stop = some i.stop → s.stop i.stop = some r →
      let outstanding := s.ann.outstanding &&& ~~~ BitVec.twoPow 12 p.val
      let heard := s.ann.heard ||| BitVec.twoPow 12 p.val
      let played := { s with
        chans := s.chans.write (chanOf p) { c with
          state := .idle, current := none, remaining := 0, staged := none, fifo := [] },
        progs := s.progs.write p { x with
          player := .idle, active := none, voiced := ⟨.clip b.samples, .playing, 2⟩ } }
      (outstanding ≠ 0 → exec (.playerBlockPeriod p) s = .next { played with
        ann := { s.ann with outstanding := outstanding, heard := heard } }) ∧
      (outstanding = 0 → (∀ k y, s.stop k = some y → y.state ≠ .due) →
        let ended := if r.state = .announcing then { r with state := .announced, skip := none } else r
        exec (.playerBlockPeriod p) s = .next (notify
          (.stopState {
            index := i.stop, id := r.id, state := ended.state, skip := ended.skip,
            latch := r.latch, announcement := .ended, participating := some s.ann.participating,
            heard := some heard, cut := some s.ann.cut })
          { played with
            ann := ⟨none, 0, 0, 0, 0⟩,
            stops := if r.state = .announcing then s.stops.write i.stop (some ended)
              else s.stops }))

/-- A preemption request keeps the order of a player's stack (R76), and is answered by R77: it is refused
where the programme is disabled, where a clip item finds the store FAILED, and where the level is taken;
a level above the player's makes the item active, and one below it puts the item in the stack. No other
programme changes. And every step keeps the places of every programme in agreement, the order of the
stacks among it (R41, R50, R54, R58, R67, R68, R76). -/
def Obligations.PreemptionKeepsTheStackOrder : Prop :=
  (∀ s t : State, PlacesOrdered s → step s = .next t → PlacesOrdered t) ∧
  ∀ (p : Prog) (e : Item) (s : State), StackOrdered (s.prog p) →
    StackOrdered ((request p e s).1.prog p) ∧
    (∀ q, q ≠ p → (request p e s).1.prog q = s.prog q) ∧
    ((s.prog p).enabled = false → request p e s = (s, .refusedState)) ∧
    ((s.prog p).enabled = true → s.store.state = .failed → e ≠ .guide → e ≠ .driver →
      request p e s = (s, .refusedNoStore)) ∧
    ((s.prog p).enabled = true → s.store.state = .ready ∨ e = .guide ∨ e = .driver →
      ((s.prog p).level = e.level ∨ (∃ h ∈ (s.prog p).stack, h.level = e.level) →
        request p e s = (s, .refusedDuplicate)) ∧
      ((s.prog p).level < e.level → (request p e s).2 = .started ∧
        ((request p e s).1.prog p).level = e.level ∧ ((request p e s).1.prog p).staged = none) ∧
      (e.level < (s.prog p).level → (∀ h ∈ (s.prog p).stack, h.level ≠ e.level) →
        (∃ i tag lt pos, e = .stop i tag lt pos) ∨ e = .guide →
        (request p e s).2 = .inserted ∧
          ((request p e s).1.prog p).active = (s.prog p).active ∧
          ((request p e s).1.prog p).stack.length = (s.prog p).stack.length + 1 ∧
          ∃ h ∈ ((request p e s).1.prog p).stack, h.level = e.level))

/-! ## Live voice -/

/-- GUIDE_ON makes its tests in order; accepted, it adds its programmes to the guide mask, and on each
the guide item becomes active, or enters the stack below the stop or the driver's PA that is active; no
other programme changes (R85). GUIDE_OFF, and the loss of the guide's microphone, take programmes off the
mask and end their guide items, active or stacked (R86, R87). Stated for ordered stacks (R76), as
PreemptionKeepsTheStackOrder keeps them. -/
def Obligations.GuideItemsFollowTheMask : Prop :=
  ∀ (tag : Byte) (s : State),
    (∀ m, LinkFree s → m = 0 ∨ 4096 ≤ m →
      exec (.guideOn tag m) s = .next (s.refused 0x30 tag .range) ∧
      exec (.guideOff tag m) s = .next (s.refused 0x31 tag .range)) ∧
    (∀ m : ProgMask, LinkFree s → m ≠ 0 →
      let on := exec (.guideOn tag m.toNat) s
      let known := ∀ p : Prog, m.getLsbD p.val = true → (s.prog p).enabled = true
      (s.op.state ≠ .run → on = .next (s.refused 0x30 tag .state)) ∧
      (s.op.state = .run → ¬known → on = .next (s.refused 0x30 tag .range)) ∧
      (s.op.state = .run → known → s.voice.mic = false → on = .next (s.refused 0x30 tag .noMic)) ∧
      (s.op.state = .run → known → s.voice.mic = true → m &&& s.voice.guide ≠ 0 →
        on = .next (s.refused 0x30 tag .duplicate)) ∧
      (s.op.state = .run → known → s.voice.mic = true → m &&& s.voice.guide = 0 →
        ∃ t live, on = .next t ∧
        t.voice = { s.voice with guide := s.voice.guide ||| m } ∧
        t.link = { s.link with replies := s.link.replies ++
          [⟨0x30, tag, .ack (.guideOn (s.voice.guide ||| m) live), .nothing⟩] } ∧
        (∀ p : Prog, m.getLsbD p.val = false → t.prog p = s.prog p) ∧
        (∀ p : Prog, m.getLsbD p.val = true → (∀ e ∈ (s.prog p).stack, e ≠ .guide) →
          ((s.prog p).level < 1 → (t.prog p).player = .live ∧ (t.prog p).active = some .guide ∧
            live.getLsbD p.val = true) ∧
          (1 < (s.prog p).level → (t.prog p).active = (s.prog p).active ∧
            .guide ∈ (t.prog p).stack ∧ live.getLsbD p.val = false)))) ∧
    (∀ m : ProgMask, LinkFree s → m ≠ 0 → (∀ p, StackOrdered (s.prog p)) →
      ∃ t, exec (.guideOff tag m.toNat) s = .next t ∧
        t.voice = { s.voice with guide := s.voice.guide &&& ~~~ m } ∧
        t.link.replies = s.link.replies ++ [⟨0x31, tag, .ack
          (.guideOff (m &&& s.voice.guide) (s.voice.guide &&& ~~~ m)), .nothing⟩] ∧
        ∀ p : Prog, (m &&& s.voice.guide).getLsbD p.val = true →
          (t.prog p).active ≠ some .guide ∧ .guide ∉ (t.prog p).stack) ∧
    exec .gmicRisingEdge s = .next { s with voice := { s.voice with mic := true } } ∧
    (s.voice.guide = 0 →
      exec .gmicFallingEdge s = .next { s with voice := { s.voice with mic := false } }) ∧
    (s.voice.guide ≠ 0 → (∀ p, StackOrdered (s.prog p)) →
      ∃ t, exec .gmicFallingEdge s = .next t ∧
        t.voice = { s.voice with mic := false, guide := 0 } ∧
        (.guideLost s.voice.guide ∈ t.link.notices ∨ t.link.lost = true) ∧
        ∀ p : Prog, s.voice.guide.getLsbD p.val = true →
          (t.prog p).active ≠ some .guide ∧ .guide ∉ (t.prog p).stack)

/-- The PTT line's active edge in RUN, with driver PA OFF, makes the driver's PA the active item of every
enabled programme for at most 60 s (R89, R90); the inactive edge ends it everywhere (R91), and so does the
timer's expiry, which leaves the PA STUCK with its notice until the line goes inactive (R92). In other
states these events change nothing. What the next choice makes of the entry below is stated for one
programme with that entry alone in its stack, no other programme on the PA and no announcement in progress
(R56, R57): a segment whose cancel is reached leaves as PASSED, one suspended for longer than RESUME_LIMIT
as STALE, at a limit of 0 any one, also one suspended for 0 ms (the model's reading, assumption 14), and
another is loaded at its resume offset with SEGMENT_STARTED; a stop item of a stop PASSED or SKIPPED is dropped and another loaded at its resume
offset; a guide item is live again while its programme is in the guide mask and the microphone present, and
is else dropped. With nothing resumed the player is IDLE. -/
def Obligations.DriverPaFollowsThePttLine : Prop :=
  ∀ s : State,
    (s.voice.pa = .off → s.op.state = .run → ∃ t, exec .pttActiveEdge s = .next t ∧
      t.voice = { s.voice with pa := .on, ptt := some 60000 } ∧
      (∀ p, (s.prog p).enabled = true → (t.prog p).active = some .driver) ∧
      (∀ p, (s.prog p).enabled = false → t.prog p = s.prog p) ∧
      t.link = s.link ∧ t.stops = s.stops ∧ t.mixer = s.mixer) ∧
    (s.voice.pa ≠ .off ∨ s.op.state ≠ .run → exec .pttActiveEdge s = .next s) ∧
    (s.voice.pa = .off → exec .pttInactiveEdge s = .next s) ∧
    (s.voice.pa = .stuck → exec .pttInactiveEdge s =
      .next { s with voice := { s.voice with pa := .off } }) ∧
    (s.voice.pa = .on → ∃ t, exec .pttInactiveEdge s = .next t ∧
      t.voice = { s.voice with pa := .off, ptt := none } ∧
      (∀ p, (t.prog p).active ≠ some .driver) ∧ t.mixer = s.mixer ∧
      t.link = { s.link with notices := t.link.notices, lost := t.link.lost }) ∧
    (s.voice.pa = .on → s.voice.ptt.isSome = true → ∃ t, exec .pttTimerExpiry s = .next t ∧
      t.voice = { s.voice with pa := .stuck, ptt := none } ∧
      (∀ p, (t.prog p).active ≠ some .driver) ∧
      (.paStuck ∈ t.link.notices ∨ t.link.lost = true)) ∧
    (s.voice.pa ≠ .on ∨ s.voice.ptt = none → exec .pttTimerExpiry s = .next s) ∧
    ∀ (p : Prog) (e : Entry), s.voice.pa = .on → (s.prog p).active = some .driver →
      (∀ q, q ≠ p → (s.prog q).active ≠ some .driver) → (s.prog p).stack = [e] →
      (s.prog p).staged = none → (s.prog p).queue = [] → s.ann.stop = none →
      s.store.state = .ready →
      let ended := exec .pttInactiveEdge s
      let off := { s with voice := { s.voice with pa := .off, ptt := none } }
      let flushed : Channel := { s.chan (chanOf p) with
        state := .idle, current := none, remaining := 0, staged := none, fifo := [] }
      let idle := { off with
        chans := s.chans.write (chanOf p) flushed,
        progs := s.progs.write p { s.prog p with player := .idle, active := none, stack := [] } }
      (∀ g, e = .segment g → g.group = none →
        let passed := ∃ c, g.cancel = some c ∧ 100 * c ≤ s.route.odo
        let stale := s.setup.resumeLimit = 0 ∨
          1000 * s.setup.resumeLimit < s.now - g.since.getD s.now
        (passed → ended = .next (notify (.segmentMissed g.id p .passed g.state) idle)) ∧
        (¬passed → stale → ended = .next (notify (.segmentMissed g.id p .stale g.state) idle)) ∧
        (¬passed → ¬stale → g.cue = none ∨ g.cueRun = true → ∃ new : Tag,
          ended = .next (notify (.segmentStarted g.id p (g.chosen.getD .main) g.resume true) { off with
            chans := s.chans.write (chanOf p) { flushed with
              state := .run, counter := new, current := some new, clip := some g.clip,
              next := g.resume, remaining := s.clipBlocks g.clip - g.resume },
            progs := s.progs.write p { s.prog p with
              player := .priming, priming := none, stack := [],
              active := some
                (.segment { g with state := .active, cueRun := true } new g.resume) } }))) ∧
      (∀ i, e = .stop i →
        let gone := ∃ y, s.stop i.stop = some y ∧ (y.state = .passed ∨ y.state = .skipped)
        (gone → ended = .next idle) ∧
        let clip := (if i.part = .chime then i.chime else i.lang).getD 0
        (¬gone → i.resume < s.clipBlocks clip → ∃ t new next, ended = .next t ∧ (t.prog p).player = .priming ∧
          (t.prog p).active = some (.stop i new next i.resume) ∧ (t.prog p).stack = [] ∧
          (t.chan (chanOf p)).current = some new ∧
          (t.chan (chanOf p)).clip = some clip ∧
          (t.chan (chanOf p)).next = i.resume)) ∧
      (e = .guide → ended = .next (
        if s.voice.guide.getLsbD p.val = true ∧ s.voice.mic = true then
          { off with
            chans := s.chans.write (chanOf p) flushed,
            progs := s.progs.write p { s.prog p with
              player := .live, active := some .guide, stack := [] } }
        else idle))

/-! ## Groups -/

/-- OPEN_GROUP refuses a field out of range with RANGE, a request outside RUN with STATE and a disabled
programme in its mask with RANGE (R62). Accepted for an ID that no record holds, it writes a FORMING record
in the lowest-numbered empty slot, which arms at once, its hold timer loaded, where the odometer has
reached the trigger (R66), and is released with its notice as well where the hold limit is 0 (R70). A
RELEASED record of the same ID is overwritten in its slot. -/
def Obligations.GroupsOpenInTheirSlot : Prop :=
  ∀ (tag : Byte) (f : GroupForm) (s : State), LinkFree s →
    (f.id = 0 ∨ 255 < f.id ∨ f.declared = 0 ∨ 4096 ≤ f.declared ∨ 1000000 < f.trigger ∨ 600 < f.hold ∨
        (∃ c, f.cancel = some c ∧ c ≤ f.trigger) →
      exec (.openGroup tag f) s = .next (s.refused 0x28 tag .range)) ∧
    (f.inRange = true → s.op.state ≠ .run →
      exec (.openGroup tag f) s = .next (s.refused 0x28 tag .state)) ∧
    (f.inRange = true → s.op.state = .run →
      (∃ p : Prog, f.declared.testBit p.val = true ∧ (s.prog p).enabled = false) →
      exec (.openGroup tag f) s = .next (s.refused 0x28 tag .range)) ∧
    ∀ slot : GroupSlot, f.inRange = true → s.op.state = .run →
      (∀ p : Prog, f.declared.testBit p.val = true → (s.prog p).enabled = true) →
      (∀ c, f.cancel = some c → s.route.odo < 100 * c) →
      ((∃ old, s.group slot = some old ∧ old.id = f.id ∧ old.state = .released ∧
          ∀ k g, s.group k = some g → g.id = f.id → k = slot) ∨
        (s.group slot = none ∧ (∀ k, k < slot → s.group k ≠ none) ∧
          ∀ k g, s.group k = some g → g.id ≠ f.id)) →
      let new : Group := {
        id := f.id, state := .forming, declared := BitVec.ofNat 12 f.declared, enrolled := 0,
        ready := 0, trigger := f.trigger, cancel := f.cancel, hold := f.hold, timer := none,
        cue := f.cue, started := 0, detached := 0, order := 0 }
      (s.route.odo < 100 * f.trigger → exec (.openGroup tag f) s = .next
        ({ s with groups := s.groups.write slot (some new) }.acked 0x28 tag (.opened .forming))) ∧
      (100 * f.trigger ≤ s.route.odo → 0 < f.hold → exec (.openGroup tag f) s = .next
        ({ s with groups := s.groups.write slot (some { new with
            state := .armed, timer := some (100 * f.hold) }) }.acked 0x28 tag (.opened .armed))) ∧
      (100 * f.trigger ≤ s.route.odo → f.hold = 0 → exec (.openGroup tag f) s = .next
        ((notify (.groupReleased f.id .holdExpiry new.declared 0 0) { s with
            groups := s.groups.write slot (some { new with
              state := .released, order := s.releases }),
            releases := s.releases + 1 }).acked 0x28 tag (.opened .released)))

/-- GET_GROUP and CLOSE_GROUP refuse an ID out of range with RANGE and one that no record holds with
UNKNOWN_ID. GET_GROUP reports the record with its members or its outcome and changes nothing else (R64;
the time left is given in whole units of 100 ms, the model's choice, assumption 17). CLOSE_GROUP answers
with the state and the enrolled mask and empties the slot; a RELEASED record leaves nothing else changed,
and another's members leave their queues as CANCELLED (R63). -/
def Obligations.GroupsAreReadAndClosed : Prop :=
  ∀ (tag : Byte) (s : State), LinkFree s →
    (∀ n, n = 0 ∨ 255 < n → exec (.getGroup tag n) s = .next (s.refused 0x2A tag .range)) ∧
    (∀ n, 1 ≤ n → n ≤ 255 → (∀ k g, s.group k = some g → g.id ≠ n) →
      exec (.getGroup tag n) s = .next (s.refused 0x2A tag .unknownId)) ∧
    (∀ k g, s.group k = some g → 1 ≤ g.id → g.id ≤ 255 →
      (∀ l h, s.group l = some h → h.id = g.id → l = k) →
      exec (.getGroup tag g.id) s = .next (s.acked 0x2A tag (.group {
        id := g.id, state := g.state, declared := g.declared, enrolled := g.enrolled,
        ready := g.ready, trigger := g.trigger, cancel := g.cancel, hold := g.hold,
        left := g.timer.getD 0 / 100, cue := g.cue,
        members :=
          if g.state = .released then []
          else (allProgs.filter fun p => g.enrolled.getLsbD p.val).filterMap fun p =>
            ((s.prog p).queue.find? fun h => decide (h.group = some g.id)).map fun h =>
              (p, h.id, h.state),
        outcome := if g.state = .released then some (g.started, g.detached) else none }))) ∧
    (∀ id, id = 0 ∨ 255 < id → exec (.closeGroup tag id) s = .next (s.refused 0x29 tag .range)) ∧
    (∀ id, 1 ≤ id → id ≤ 255 → (∀ k g, s.group k = some g → g.id ≠ id) →
      exec (.closeGroup tag id) s = .next (s.refused 0x29 tag .unknownId)) ∧
    ∀ slot g, s.group slot = some g → 1 ≤ g.id → g.id ≤ 255 →
      (∀ k h, s.group k = some h → h.id = g.id → k = slot) →
      (g.state = .released → exec (.closeGroup tag g.id) s = .next
        ({ s with groups := s.groups.write slot none }.acked 0x29 tag
          (.closed .released g.enrolled))) ∧
      (g.state ≠ .released → ∃ t, exec (.closeGroup tag g.id) s = .next t ∧
        t.group slot = none ∧
        t.link = { s.link with
          replies := s.link.replies ++ [⟨0x29, tag, .ack (.closed g.state g.enrolled), .nothing⟩],
          notices := t.link.notices, lost := t.link.lost } ∧
        (∀ p : Prog, g.enrolled.getLsbD p.val = false → t.prog p = s.prog p) ∧
        (∀ p : Prog, g.enrolled.getLsbD p.val = true →
          ((s.prog p).queue.filter fun h => decide (h.group = some g.id)).length ≤ 1 →
          ∀ h ∈ (t.prog p).queue, h.group ≠ some g.id) ∧
        (t.route, t.setup, t.clips, t.store, t.arrivals, t.voice, t.mixer, t.nodes, t.jacks) =
          (s.route, s.setup, s.clips, s.store, s.arrivals, s.voice, s.mixer, s.nodes, s.jacks) ∧
        (t.loop, t.cues, t.op, t.stops, t.ann, t.pending) =
          (s.loop, s.cues, s.op, s.stops, s.ann, s.pending))

/-- The expiry of an ARMED group's hold timer releases it (R70 to R72): the record keeps its masks and
notes who started and who was detached, with the next release order; each ready member that heads its
queue becomes its player's active item at once, ungrouped, with the group's trigger and cancel. An expiry
of a timer that does not run changes nothing. -/
def Obligations.HoldExpiryReleasesTheGroup : Prop :=
  ∀ (slot : GroupSlot) (s : State),
    ((∀ g, s.group slot = some g → g.state ≠ .armed ∨ g.timer = none) →
      exec (.holdTimerExpiry slot) s = .next s) ∧
    ∀ g, s.group slot = some g → g.state = .armed → g.timer.isSome = true →
      ∃ t, exec (.holdTimerExpiry slot) s = .next t ∧
        t.group slot = some { g with
          state := .released, timer := none, started := g.ready,
          detached := g.enrolled &&& ~~~ g.ready, order := s.releases } ∧
        t.releases = s.releases + 1 ∧
        ((.groupReleased g.id .holdExpiry g.declared g.ready (g.enrolled &&& ~~~ g.ready))
          ∈ t.link.notices ∨ t.link.lost = true) ∧
        (∀ (p : Prog) (h : Segment) (rest : List Segment) (new : Tag),
          g.ready.getLsbD p.val = true → (s.prog p).queue = h :: rest → h.group = some g.id →
          (s.prog p).priming = some new →
          (t.prog p).player = .playing ∧ (t.prog p).priming = none ∧
          (t.prog p).active = some (.segment { h with
            group := none, trigger := some g.trigger, cancel := g.cancel, cueRun := true,
            chosen := h.held, held := none, state := .active } new 0)) ∧
        (∀ p : Prog, (g.enrolled ||| g.ready).getLsbD p.val = false → t.prog p = s.prog p) ∧
        (t.route, t.setup, t.clips, t.store, t.arrivals, t.voice, t.mixer, t.nodes, t.jacks) =
          (s.route, s.setup, s.clips, s.store, s.arrivals, s.voice, s.mixer, s.nodes, s.jacks) ∧
        (t.loop, t.cues, t.op, t.stops, t.ann, t.pending) =
          (s.loop, s.cues, s.op, s.stops, s.ann, s.pending)

/-! ## Stops -/

/-- LOAD_STOP makes its tests in order, the first that fails deciding the refusal: the ranges, with RANGE;
the order of announce and arrival and of the arrivals of the nearest loaded stops on either side, with
ORDER; the clips defined, with UNKNOWN_ID, and of their kinds, with RANGE; the slot's present record PENDING,
its announce point not reached and itself not being announced, with STATE; and the new pass point not
reached, with PASSED (R97). When every test passes the record is written whole, without a skip reason and
with the latch of the record it replaces, and PENDING, or DUE where its announce point is reached and it
does not wait for a request (R98, R101). It stays so while an announcement is in progress, outside RUN,
while the store is FAILED, and where no stop is DUE; where it alone is DUE its announcement starts, or ends
at once, ANNOUNCED, where no programme takes part (R105 to R107). The ACK carries NEW or REPLACED and the
stop's state after these steps, and no other record changes. -/
def Obligations.LoadStopWritesTheRecord : Prop :=
  ∀ (tag : Byte) (f : StopForm) (s : State), LinkFree s →
    let refused := fun code : RefuseCode =>
      exec (.loadStop tag f) s = .next (s.refused 0x38 tag code)
    let inRange := f.index ≤ 63 ∧ f.id ≤ 255 ∧ f.flags ≤ 1 ∧ f.announce ≤ 1000000 ∧
      f.arrival ≤ 1000000 ∧ f.pairs.length ≤ 12 ∧ (∀ c ∈ f.pairs, c.1 ≤ 11 ∧ c.2 ≤ 1023) ∧
      (f.pairs.map Prod.fst).Nodup ∧ (∀ c, f.chime = some c → c ≤ 1023) ∧ ∀ c, f.cue = some c → c ≤ 31
    (¬inRange → refused .range) ∧
    ∀ i : StopIx, inRange → f.index = i.val →
      let ordered := f.announce ≤ f.arrival ∧ ∀ k x, s.stop k = some x →
        (k < i → (∀ m, k < m → m < i → s.stop m = none) → x.arrival < f.arrival) ∧
        (i < k → (∀ m, i < m → m < k → s.stop m = none) → f.arrival < x.arrival)
      let defined := (∀ c, f.chime = some c → s.clip c ≠ none) ∧ ∀ c ∈ f.pairs, s.clip c.2 ≠ none
      let kinds := (∀ c k, f.chime = some c → s.clip c = some k → k.kind = .chime) ∧
        ∀ c ∈ f.pairs, ∀ k, s.clip c.2 = some k → k.kind = .speech
      let free := ∀ x, s.stop i = some x →
        x.state = .pending ∧ s.route.odo < 100 * x.announce ∧ s.ann.stop ≠ some i
      let passed := 100 * f.arrival + 1000 * s.setup.passMargin ≤ s.route.odo
      (¬ordered → refused .order) ∧ (ordered → ¬defined → refused .unknownId) ∧
      (ordered → defined → ¬kinds → refused .range) ∧
      (ordered → defined → kinds → ¬free → refused .state) ∧
      (ordered → defined → kinds → free → passed → refused .passed) ∧
      (ordered → defined → kinds → free → ¬passed →
        let due := 100 * f.announce ≤ s.route.odo ∧
          (f.flags = 0 ∨ ∃ x, s.stop i = some x ∧ x.latch = true)
        ∃ new : Stop, new.id = f.id ∧ new.announce = f.announce ∧ new.arrival = f.arrival ∧
          new.requestOnly = decide (f.flags = 1) ∧ new.chime = f.chime ∧ new.cue = f.cue ∧
          new.clips.map (fun x => (x.1.val, x.2)) = f.pairs ∧
          new.latch = ((s.stop i).map Stop.latch).getD false ∧ new.skip = none ∧
          (due → new.state = .due) ∧ (¬due → new.state = .pending) ∧
          let reply := fun st : StopState => s.link.replies ++
            [⟨0x38, tag, .ack (.loaded (if s.stop i = none then .new else .replaced) st), .nothing⟩]
          (s.ann.stop ≠ none ∨ s.op.state ≠ .run ∨ s.store.state ≠ .ready ∨
              (¬due ∧ ∀ k x, s.stop k = some x → x.state ≠ .due) →
            exec (.loadStop tag f) s = .next { s with
              stops := s.stops.write i (some new),
              link := { s.link with replies := reply new.state } }) ∧
          (s.ann.stop = none → s.op.state = .run → s.store.state = .ready → due →
            (∀ k x, s.stop k = some x → x.state ≠ .due) →
            let joins := fun p : Prog => (s.prog p).enabled = true ∧
              (f.chime ≠ none ∨ ∃ c ∈ f.pairs, c.1 = p.val ∨ c.1 = s.setup.fallback.val) ∧
              (s.prog p).level ≠ 2 ∧ ∀ e ∈ (s.prog p).stack, e.level ≠ 2
            ∃ (t : State) (st : StopState), exec (.loadStop tag f) s = .next t ∧
              t.stops = s.stops.write i (some { new with state := st }) ∧
              t.link = { s.link with
                replies := reply st, notices := t.link.notices, lost := t.link.lost } ∧
              ((∃ p, joins p) → st = .announcing ∧ t.ann.stop = some i ∧
                (∀ p : Prog, t.ann.participating.getLsbD p.val = true ↔ joins p) ∧
                t.ann.outstanding = t.ann.participating ∧ t.ann.heard = 0 ∧ t.ann.cut = 0) ∧
              ((∀ p, ¬joins p) → st = .announced ∧ t.ann = ⟨none, 0, 0, 0, 0⟩) ∧
              Told t 0x8B i.val ∧ (∀ p, ¬joins p → t.prog p = s.prog p) ∧
              (t.route, t.clips, t.setup, t.op, t.voice, t.mixer, t.nodes, t.jacks, t.loop, t.cues) =
                (s.route, s.clips, s.setup, s.op, s.voice, s.mixer, s.nodes, s.jacks, s.loop,
                  s.cues)))

/-- CLEAR_STOPS is refused with STATE while an announcement is in progress; otherwise it empties every
slot, so that stop records hold no clip any more, and answers with the number of records removed (R99). -/
def Obligations.ClearStopsEmptiesTheTable : Prop :=
  ∀ (tag : Byte) (s : State), LinkFree s →
    (s.ann.stop ≠ none → exec (.clearStops tag) s = .next (s.refused 0x39 tag .state)) ∧
    (s.ann.stop = none → ∃ t, exec (.clearStops tag) s = .next t ∧
      t = { s with stops := t.stops }.acked 0x39 tag
        (.cleared (allStops.filter fun i => decide (s.stop i ≠ none)).length) ∧
      (∀ i, t.stop i = none) ∧
      ∀ n, s.uses n = t.uses n + (allStops.map fun i =>
        match s.stop i with
        | some x => (if x.chime = some n then 1 else 0) +
            (x.clips.filter fun c => decide (c.2 = n)).length
        | none => 0).sum)

/-- STOP_REQUEST and the STOP_REQ line's active edge set the latch of the next stop, the first loaded one
that is PENDING, DUE, ANNOUNCING or ANNOUNCED (R102). Outside RUN the request is refused with STATE and
the edge ignored; with no next stop, and with its latch already set, nothing changes. A latch that becomes
set sends STOP_STATE; a stop waiting for its request past its announce point then becomes DUE. Behind an
announcement in progress it waits; where the record is IDLE, the store READY and no other stop DUE, its
announcement starts (R105 to R107): each enabled programme for which the stop has a clip, the fallback's
clip or a chime, and whose player holds no stop item, takes its stop item, active or, under driver PA, in
its stack; these make the participating and outstanding masks that STOP_STATE carries. Where no programme
takes part the announcement ends at once, the stop ANNOUNCED (R107, R108). That STOP_STATE says NONE of an
announcement that has already ended is the model's choice (assumption 34). -/
def Obligations.StopRequestsSetTheLatch : Prop :=
  ∀ (tag : Byte) (s : State),
    (s.op.state ≠ .run → exec .stopReqActiveEdge s = .next s ∧
      (LinkFree s → exec (.stopRequest tag) s = .next (s.refused 0x3A tag .state))) ∧
    (s.op.state = .run →
      (∀ k x, s.stop k = some x → x.state = .arrived ∨ x.state = .passed ∨ x.state = .skipped) →
      exec .stopReqActiveEdge s = .next s ∧
      (LinkFree s → exec (.stopRequest tag) s = .next (s.acked 0x3A tag (.requested none)))) ∧
    ∀ (i : StopIx) (x : Stop), s.op.state = .run → s.stop i = some x →
      (x.state = .pending ∨ x.state = .due ∨ x.state = .announcing ∨ x.state = .announced) →
      (∀ k y, k < i → s.stop k = some y →
        y.state = .arrived ∨ y.state = .passed ∨ y.state = .skipped) →
      let reply : Reply := ⟨0x3A, tag, .ack (.requested (some (i, x.latch))), .nothing⟩
      let asked := { s with link := { s.link with replies := s.link.replies ++ [reply] } }
      (x.latch = true → exec .stopReqActiveEdge s = .next s ∧
        (LinkFree s → exec (.stopRequest tag) s = .next asked)) ∧
      (x.latch = false →
        let note := fun st : StopState => Notice.stopState {
          index := i, id := x.id, state := st, skip := x.skip, latch := true,
          announcement := if s.ann.stop = some i then .inProgress else .none,
          participating := none, heard := none, cut := none }
        let latched := fun u : State => notify (note x.state)
          { u with stops := s.stops.write i (some { x with latch := true }) }
        (x.state ≠ .pending ∨ s.route.odo < 100 * x.announce →
          s.ann.stop ≠ none ∨ (∀ k y, s.stop k = some y → y.state ≠ .due) →
          exec .stopReqActiveEdge s = .next (latched s) ∧
          (LinkFree s → exec (.stopRequest tag) s = .next (latched asked))) ∧
        (x.state = .pending → 100 * x.announce ≤ s.route.odo → s.ann.stop ≠ none →
          ∃ t, exec .stopReqActiveEdge s = .next t ∧
            t.stop i = some { x with latch := true, state := .due, skip := none } ∧
            t = { s with stops := t.stops, link := t.link } ∧ ∀ k, k ≠ i → t.stop k = s.stop k) ∧
        (x.state = .pending → 100 * x.announce ≤ s.route.odo → s.ann.stop = none →
          s.store.state = .ready → (∀ k y, s.stop k = some y → y.state ≠ .due) →
          let langFor := fun p : Prog => ((x.clips.find? fun c => decide (c.1 = p)).or
            (x.clips.find? fun c => decide (c.1 = s.setup.fallback))).map Prod.snd
          let joins := fun p : Prog => (s.prog p).enabled = true ∧
            (x.chime ≠ none ∨ langFor p ≠ none) ∧ (s.prog p).level ≠ 2 ∧
            ∀ e ∈ (s.prog p).stack, e.level ≠ 2
          let told := fun (t : State) (st : StopState) (mark : AnnMark) (m : ProgMask)
              (masks : Option ProgMask) =>
            t.stop i = some { x with latch := true, state := st, skip := none } ∧
            Noted t (.stopState {
              index := i, id := x.id, state := st, skip := none, latch := true,
              announcement := mark, participating := some m, heard := masks, cut := masks })
          ∃ t, exec .stopReqActiveEdge s = .next t ∧
            (∀ k, k ≠ i → t.stop k = s.stop k) ∧ (∀ p, ¬joins p → t.prog p = s.prog p) ∧
            ((∀ p, ¬joins p) → t.ann = ⟨none, 0, 0, 0, 0⟩ ∧ told t .announced .ended 0 (some 0)) ∧
            ((∃ p, joins p) → ∃ m : ProgMask, (∀ p : Prog, m.getLsbD p.val = true ↔ joins p) ∧
              t.ann = ⟨some i, m, m, 0, 0⟩ ∧ told t .announcing .inProgress m none ∧
              ∀ p, joins p →
                let item : StopItem := {
                  stop := i, chime := x.chime, lang := langFor p,
                  part := if x.chime = none then .language else .chime, resume := 0 }
                ((s.prog p).level < 2 → (t.prog p).player = .priming ∧
                  ∃ new next, (t.prog p).active = some (.stop item new next 0)) ∧
                (2 < (s.prog p).level → (t.prog p).active = (s.prog p).active ∧
                  .stop item ∈ (t.prog p).stack))))

/-- In RUN the door's opening acts on the door stop, the first loaded one that is not PASSED or SKIPPED,
where the odometer has come within 50 m of its arrival: a stop that is not ARRIVED becomes so with its
STOP_STATE, and DOOR_CUE starts on the STOP player where it is set and defined (R104, R153). Otherwise
the edge is ignored. That STOP_STATE says NONE of an announcement that has already ended is the model's
choice (assumption 34). -/
def Obligations.DoorMakesTheStopArrived : Prop :=
  ∀ s : State,
    (s.op.state ≠ .run → exec .doorOpeningEdge s = .next s) ∧
    ((∀ k x, s.stop k = some x → x.state = .passed ∨ x.state = .skipped) →
      exec .doorOpeningEdge s = .next s) ∧
    ∀ (i : StopIx) (x : Stop), s.op.state = .run → s.stop i = some x → x.state ≠ .passed →
      x.state ≠ .skipped →
      (∀ k y, k < i → s.stop k = some y → y.state = .passed ∨ y.state = .skipped) →
      (s.route.odo + 50000 < 100 * x.arrival → exec .doorOpeningEdge s = .next s) ∧
      (100 * x.arrival ≤ s.route.odo + 50000 → ∃ t, exec .doorOpeningEdge s = .next t ∧
        let note : Notice := .stopState {
          index := i, id := x.id, state := .arrived, skip := none, latch := x.latch,
          announcement := if s.ann.stop = some i then .inProgress else .none,
          participating := none, heard := none, cut := none }
        let u := if x.state = .arrived then s
          else notify note { s with
            stops := s.stops.write i (some { x with state := .arrived, skip := none }) }
        t = { u with lamps := t.lamps, zones := t.zones } ∧
        (s.setup.doorCue = none → t = u) ∧
        (∀ (n : CueIx) c first, s.setup.doorCue = some n.val → s.cues.read n = some c →
          c.steps.head? = some first →
          t.lamps.stopRun = some ⟨n, 1, 1, if first.fade + first.hold = 0 then 10
            else first.fade + first.hold⟩))

/-! ## The mixer and the level unit -/

/-- BED_START makes the tests of R117 in order; accepted, it loads F12 with the clip under a new tag and
primes the bed. BED_STOP makes the bed OFF, F12 flushed, without a notice, and BED_LEVEL sets the gain
alone (R119); SPEAKER_SET writes a feed's four settings and nothing else (R122). -/
def Obligations.BedAndFeedsAreSet : Prop :=
  ∀ (tag : Byte) (clip : Nat) (gain : Int) (s : State), LinkFree s →
    (if 1023 < clip ∨ gain < -120 ∨ 0 < gain then
      exec (.bedStart tag clip gain) s = .next (s.refused 0x40 tag .range)
    else if s.op.state ≠ .run then
      exec (.bedStart tag clip gain) s = .next (s.refused 0x40 tag .state)
    else match s.clip clip with
      | none => exec (.bedStart tag clip gain) s = .next (s.refused 0x40 tag .unknownId)
      | some k =>
        if k.kind ≠ .bed then exec (.bedStart tag clip gain) s = .next (s.refused 0x40 tag .range)
        else if s.store.state = .failed then
          exec (.bedStart tag clip gain) s = .next (s.refused 0x40 tag .noStore)
        else ∃ new : Tag,
          (∀ r, (s.chan 12).inFlight = some r → new ≠ r.tag) ∧ (s.chan 12).current ≠ some new ∧
          exec (.bedStart tag clip gain) s = .next ({ s with
            mixer := { s.mixer with
              bedState := .priming, bedClip := some clip, bedTag := some new, bedPos := 0,
              bedGain := gain },
            chans := s.chans.write 12 { s.chan 12 with
              state := .run, counter := new, current := some new, clip := some clip, next := 0,
              remaining := k.count, staged := none, fifo := [] } }.acked 0x40 tag
            (.bedBefore s.mixer.bedState))) ∧
    exec (.bedStop tag) s = .next (
      (if s.mixer.bedState = .off then s
      else { s with
        mixer := { s.mixer with bedState := .off, bedClip := none, bedTag := none, bedPos := 0 },
        chans := s.chans.write 12 { s.chan 12 with
          state := .idle, current := none, remaining := 0, staged := none, fifo := [] } }).acked
        0x41 tag (.bedBefore s.mixer.bedState)) ∧
    exec (.bedLevel tag gain) s = .next (
      if gain < -120 ∨ 0 < gain then s.refused 0x42 tag .range
      else { s with mixer := { s.mixer with bedGain := gain } }.acked 0x42 tag
        (.gainBefore s.mixer.bedGain)) ∧
    ∀ feed source filter bed : Nat,
      (1 < feed ∨ 11 < source ∨ 2 < filter ∨ 1 < bed ∨ gain < -120 ∨ 0 < gain →
        exec (.speakerSet tag feed source filter gain bed) s =
          .next (s.refused 0x43 tag .range)) ∧
      ∀ (p : Prog) (k : Filter), source = p.val →
        (filter, k) ∈ [(0, Filter.all), (1, .guideUp), (2, .announce)] → -120 ≤ gain → gain ≤ 0 →
        bed ≤ 1 →
        exec (.speakerSet tag 0 source filter gain bed) s = .next
          ({ s with mixer := { s.mixer with upper := ⟨p, k, gain, decide (bed = 1)⟩ } }.acked
            0x43 tag .empty) ∧
        exec (.speakerSet tag 1 source filter gain bed) s = .next
          ({ s with mixer := { s.mixer with lower := ⟨p, k, gain, decide (bed = 1)⟩ } }.acked
            0x43 tag .empty)

/-- The mixer's block period (R115, R118, R120, R121, R123 to R125): every duck value takes one step, and
each sample of each programme's block is its speech plus the bed scaled under it, limited to 16 bits; a
disabled programme's is 0. A speaker feed carries MIC_DRIVER under driver PA, or else its source's speech
where its filter passes, mixed in the same way and scaled by its gain, and 0 while the speakers are held.
The bed gives the oldest block of F12 while it is PLAYING or begins to play, which BED_STATE tells, its
position moving on and back to the loop point (R36, R37). The mixer's outputs, duck values, bed state and
position, F12 and that notice are all that change. The seat loop's slot of each programme carries its
output block in RUN, silence in LAYOVER and nothing in DORMANT (R133). The players' speech is the one latched at their block period (the model's
reading, assumption 10). -/
def Obligations.MixerBuildsEachSample : Prop :=
  ∀ (micGuide micDriver : List Sample) (s : State),
    let primed := s.mixer.bedState = .priming ∧ ∃ n new, s.mixer.bedClip = some n ∧
      s.mixer.bedTag = some new ∧
      min 2 (s.clipBlocks n) ≤ ((s.chan 12).fifo.filter fun b => decide (b.tag = new)).length
    let plays := s.mixer.bedState = .playing ∨ primed
    let place := fun (b : List Sample) (i : Nat) => (b.getD i 0).toInt
    let speech := fun (v : Speech) (i : Nat) =>
      match v with
      | .silence => 0
      | .clip b => place b i
      | .guide => place micGuide i
      | .driver => place micDriver i
    let limit := fun x : Int => max (-32768) (min 32767 x)
    let scaled := fun (a level : Int) => (a * lin level + 16384) / 32768
    let moved := fun (u target : Nat) => if u < target then min target (u + 6) else max target (u - 1)
    let duck := fun p : Prog =>
      if (s.prog p).enabled then
        moved (s.mixer.ducks.read p)
          (if (s.prog p).voiced.state = .playing ∨ (s.prog p).voiced.state = .live then
            s.setup.duckDepth else 0)
      else 0
    let least := fun f : Filter => match f with
      | .all => (0 : Int)
      | .guideUp => 1
      | .announce => 2
    let passes := fun f : FeedSettings =>
      s.voice.pa = .on ∨ least f.filter ≤ (s.prog f.source).voiced.level
    ∃ (t : State) (bed : Nat → Int), exec (.mixerBlockPeriod micGuide micDriver) s = .next t ∧
      t = { s with mixer := t.mixer, chans := t.chans, link := t.link } ∧
      t.mixer = { s.mixer with
        bedState := t.mixer.bedState, bedPos := t.mixer.bedPos, ducks := t.mixer.ducks,
        upperDuck := t.mixer.upperDuck, lowerDuck := t.mixer.lowerDuck,
        progOut := t.mixer.progOut, spkUpper := t.mixer.spkUpper, spkLower := t.mixer.spkLower } ∧
      (primed → t.link = (notify (.bedState .playing s.mixer.bedClip none) s).link) ∧
      (¬primed → t.link = s.link) ∧
      (∀ p, t.loopSlot p = match s.op.state with
        | .run => some (t.mixer.progOut.read p)
        | .layover => some (List.replicate 320 0)
        | .dormant => none) ∧
      (∀ c : Chan, c ≠ 12 → t.chan c = s.chan c) ∧
      (¬plays → t.chans = s.chans ∧ t.mixer.bedState = s.mixer.bedState ∧
        t.mixer.bedPos = s.mixer.bedPos ∧ ∀ i, bed i = 0) ∧
      (plays → t.mixer.bedState = .playing ∧
        ((s.chan 12).fifo = [] → t.chans = s.chans ∧ t.mixer.bedPos = s.mixer.bedPos ∧
          ∀ i, bed i = 0) ∧
        ∀ b rest, (s.chan 12).fifo = b :: rest →
          t.chan 12 = { s.chan 12 with
            fifo := rest,
            state := if rest = [] ∧ (s.chan 12).current = none ∧ (s.chan 12).staged = none then .idle
              else (s.chan 12).state } ∧
          (∀ n, s.mixer.bedClip = some n → t.mixer.bedPos =
            if s.mixer.bedPos + 1 < s.clipBlocks n then s.mixer.bedPos + 1 else s.loopPoint n) ∧
          ∀ i, bed i = place b.samples i) ∧
      (∀ p, t.mixer.ducks.read p = duck p) ∧
      (∀ (p : Prog) (i : Nat), i < 320 → place (t.mixer.progOut.read p) i =
        if (s.prog p).enabled then
          limit (speech (s.prog p).voiced.speech i +
            scaled (if (s.prog p).bed then bed i else 0) (s.mixer.bedGain - duck p))
        else 0) ∧
      ∀ (f : FeedSettings) (old new : Nat) (gain : Int) (out : Block),
        (f, old, new, gain, out) ∈
          [(s.mixer.upper, s.mixer.upperDuck, t.mixer.upperDuck,
              min 0 (s.mixer.upper.level + s.mixer.lift), t.mixer.spkUpper),
            (s.mixer.lower, s.mixer.lowerDuck, t.mixer.lowerDuck,
              min 0 s.mixer.lower.level, t.mixer.spkLower)] →
        (passes f → new = moved old s.setup.duckDepth) ∧ (¬passes f → new = moved old 0) ∧
        ∀ i, i < 320 →
          (s.op.ampEn = false ∨ s.op.settle ≠ none → place out i = 0) ∧
          (s.op.ampEn = true → s.op.settle = none →
            ∃ voice : Int,
              (s.voice.pa = .on → voice = place micDriver i) ∧
              (s.voice.pa ≠ .on → passes f → voice = speech (s.prog f.source).voiced.speech i) ∧
              (¬passes f → voice = 0) ∧
              place out i = limit (scaled
                (limit (voice + scaled (if f.bed then bed i else 0) (s.mixer.bedGain - new))) gain))

/-- An expiry of the lift timer computes the target from the speed in force and moves the lift 1 hdB
toward it; where the lift changes, the codes of the jacks on UPPER nodes are computed again, and no other
code changes (R126, R128). -/
def Obligations.LiftMovesTowardItsTarget : Prop :=
  ∀ s : State,
    let speed := if s.op.state = .run ∧ s.route.state = .tracking then s.route.speed else 0
    let target := min s.setup.liftMax (speed * s.setup.liftSlope / 100)
    let w := if s.mixer.lift < target then s.mixer.lift + 1
      else if target < s.mixer.lift then s.mixer.lift - 1 else s.mixer.lift
    (w = s.mixer.lift →
      exec .liftTimerExpiry s = .next { s with mixer := { s.mixer with liftGoal := target } }) ∧
    ∃ t, exec .liftTimerExpiry s = .next t ∧
      t.mixer = { s.mixer with lift := w, liftGoal := target, codes := t.mixer.codes } ∧
      t = { s with mixer := t.mixer, jacks := t.jacks } ∧
      (∀ j, { t.jack j with update := none } = { s.jack j with update := none }) ∧
      (∀ j, (s.node (nodeOf j)).deck = .lower → t.code j = s.code j ∧ t.jack j = s.jack j) ∧
      (w ≠ s.mixer.lift → ∀ j, (s.node (nodeOf j)).deck = .upper → t.code j = t.gainCode j)

/-- lin(x) for x = 0 to −180 hdB is 32,768 × 10^(x/40) rounded to the nearest integer, limited to 32,767,
and 0 below; a scaled sample is the rounded product, and stays within 16 bits (R116). The rounding is
stated by 40th powers: n rounds 32,768 × 10^(−k/40) where (2n − 1)^40 × 10^k ≤ 65,536^40 <
(2n + 1)^40 × 10^k. -/
def Obligations.LinIsTheRoundedPower : Prop :=
  lin 0 = 32767 ∧
  (∀ k : Nat, 1 ≤ k → k ≤ 180 → ∃ n : Nat, lin (-(k : Int)) = n ∧ 1 ≤ n ∧
    (2 * n - 1) ^ 40 * 10 ^ k ≤ 65536 ^ 40 ∧ 65536 ^ 40 < (2 * n + 1) ^ 40 * 10 ^ k) ∧
  (∀ x : Int, x < -180 → lin x = 0) ∧
  ∀ (a : Sample) (x : Int), scale a.toInt (lin x) = (a.toInt * lin x + 16384) / 32768 ∧
    -32768 ≤ scale a.toInt (lin x) ∧ scale a.toInt (lin x) ≤ 32767

/-! ## The seat loop -/

/-- NODE_SET refuses a value out of range with RANGE; otherwise it answers with the node state, writes the
deck, which undeclaring a node keeps as it was (R131), and leaves the gain codes of the node's four jacks
computed again (R132). A node declared anew is
ONLINE with its jacks UNKNOWN and a pending update each; one undeclared is OFFLINE, its jacks UNKNOWN
without updates, and its outstanding polls no longer act on it; one that stays as it was keeps its state
and its jacks. Settings are kept, and no other
node or jack changes. -/
def Obligations.NodeSetDeclaresItsJacks : Prop :=
  ∀ (tag : Byte) (node declared deck : Nat) (s : State), LinkFree s →
    (15 < node ∨ 1 < declared ∨ 1 < deck →
      exec (.nodeSet tag node declared deck) s = .next (s.refused 0x48 tag .range)) ∧
    ∀ (n : Node) (e : Bool), node = n.val → declared = e.toNat → deck ≤ 1 →
      let d : Deck := if deck = 1 then .upper else .lower
      let old := s.node n
      let new : NodeRec :=
        if e = old.declared then { old with deck := d }
        else if e then ⟨true, d, .online, 0⟩
        else ⟨false, old.deck, .offline, 0⟩
      ∃ t, exec (.nodeSet tag node declared deck) s = .next t ∧
        t.nodes = s.nodes.write n new ∧
        t.link = { s.link with
          replies := s.link.replies ++ [⟨0x48, tag, .ack (.node new.state), .nothing⟩] } ∧
        t.mixer = { s.mixer with codes := t.mixer.codes } ∧
        t.loop.polls = s.loop.polls.map (fun q =>
          if old.declared = true ∧ e = false ∧ q.node = n then { q with detached := true } else q) ∧
        (∀ j, nodeOf j = n → t.code j = t.gainCode j ∧
          (e = old.declared → { t.jack j with update := none } = { s.jack j with update := none }) ∧
          (e ≠ old.declared → t.jack j = { s.jack j with
            state := .unknown, sense := none, confirmed := none,
            update := if e then some ⟨(s.jack j).language, t.code j, none⟩ else none })) ∧
        (∀ j, nodeOf j ≠ n → t.code j = s.code j ∧ t.jack j = s.jack j) ∧
        t = { s with
          nodes := t.nodes, jacks := t.jacks, mixer := t.mixer, loop := t.loop, link := t.link }

/-- JACK_SET refuses a number out of range and a disabled programme with RANGE; otherwise it writes
language, step and the assigned flag, the gain code follows, a changed code or language gives an update to
a jack of a declared ONLINE node, and the ACK carries state and code; no notice is sent. GET_JACK reports
the jack, its code and its node (R144). -/
def Obligations.JacksAreSetAndRead : Prop :=
  ∀ (tag : Byte) (jack prog volume : Nat) (s : State), LinkFree s →
    (63 < jack ∨ 11 < prog ∨ 15 < volume ∨ (∃ p : Prog, p.val = prog ∧ (s.prog p).enabled = false) →
      exec (.jackSet tag jack prog volume) s = .next (s.refused 0x49 tag .range)) ∧
    (∀ (j : Jack) (p : Prog), jack = j.val → prog = p.val → volume ≤ 15 →
      (s.prog p).enabled = true →
      ∃ t, exec (.jackSet tag jack prog volume) s = .next t ∧
        t.code j = t.gainCode j ∧
        t.jacks = s.jacks.write j { s.jack j with
          language := p, volume := volume, assigned := true,
          update :=
            if ((s.node (nodeOf j)).declared = true ∧ (s.node (nodeOf j)).state = .online) ∧
                (p ≠ (s.jack j).language ∨ t.code j ≠ s.code j) then
              some ⟨p, t.code j, none⟩
            else (s.jack j).update } ∧
        t.mixer = { s.mixer with codes := s.mixer.codes.write j (t.code j) } ∧
        t = { s with jacks := t.jacks, mixer := t.mixer }.acked 0x49 tag
          (.jackSet (s.jack j).state (t.code j))) ∧
    (63 < jack → exec (.getJack tag jack) s = .next (s.refused 0x4A tag .range)) ∧
    ∀ j : Jack, exec (.getJack tag j.val) s = .next (s.acked 0x4A tag (.jack {
      jack := j, record := s.jack j, code := s.mixer.codes.read j, node := s.node (nodeOf j) }))

/-- A poll is sent to the first node the round still includes, in slot A or else B (that A is taken
where both are free is the model's choice, assumption 32), with the updates that no poll carries; its
bytes, of at most 15, begin with the address and sum to 0 modulo 256 (R137, R180, 12.5). In DORMANT,
without a free slot, and without a node to poll, none is sent. -/
def Obligations.PollsAreSentInRounds : Prop :=
  ∀ s : State,
    let included := fun n : Node => (s.node n).declared = true ∧
      ((s.node n).state = .online ∨ s.loop.round = 0)
    (s.op.state = .dormant ∨ s.loop.next = none ∨
        (∃ a, s.loop.next = some a ∧ ∀ n : Node, a ≤ n.val → ¬included n) ∨
        ((∃ p ∈ s.loop.polls, p.slot = .a) ∧ (∃ p ∈ s.loop.polls, p.slot = .b)) →
      exec .pollSend s = .next s) ∧
    ∀ (a : Nat) (n : Node) (k : PollSlot), s.op.state ≠ .dormant → s.loop.next = some a →
      a ≤ n.val → included n → (∀ m : Node, a ≤ m.val → m < n → ¬included m) →
      (∀ p ∈ s.loop.polls, p.slot ≠ k) → (k = .b → ∃ p ∈ s.loop.polls, p.slot = .a) →
      ∃ t poll, exec .pollSend s = .next t ∧ t.loop.polls = s.loop.polls ++ [poll] ∧
        poll.slot = k ∧ poll.node = n ∧ poll.timer = 4 ∧ poll.detached = false ∧
        poll.message.foldl (· + ·) 0 = 0 ∧ poll.message.length ≤ 15 ∧
        poll.message.head? = some (BitVec.ofNat 8 n.val) ∧
        (∀ j, nodeOf j = n → t.jack j = { s.jack j with update := (s.jack j).update.map fun u =>
          { u with carriedBy := some (u.carriedBy.getD k) } }) ∧
        (∀ j, nodeOf j ≠ n → t.jack j = s.jack j) ∧
        t = { s with jacks := t.jacks, loop := t.loop }

/-- A reply matched to a node's oldest poll ends the poll, and every update it carried is the jack's
acknowledged value (R138). On a declared node it clears the misses, an OFFLINE node returning ONLINE with
NODE_BACK and an update for each jack (R140); each jack takes its sense by the debounce and arrival rules,
then its buttons in their order (R141 to R143): a changed language or code is a pending update, and a
changed jack is told by JACK_CHANGE with its code (R128, R136). On a node undeclared since the poll was
sent nothing else happens, also where it was declared anew (the model's reading, assumption 27). A
malformed or unmatched reply changes nothing (R180; a reply of a wrong length is malformed, assumption 15).
The expiry of a response timer ends the poll, its updates staying pending, carried by no poll, and counts a
miss, the third in a row taking the node OFFLINE with NODE_LOST (R139). In LAYOVER the round timer begins
the next round, or lets it begin once the present one has ended (R137; the round number grows as the next
round begins, assumption 12). -/
def Obligations.PollsEndByReplyOrTimeout : Prop :=
  ∀ s : State,
    (∀ bytes, s.op.state = .dormant ∨ parseReply bytes = none ∨
        (∃ r, parseReply bytes = some r ∧ ∀ p ∈ s.loop.polls, p.node ≠ r.node) →
      exec (.seatReply bytes) s = .next s) ∧
    (∀ bytes r p before after, s.op.state ≠ .dormant → parseReply bytes = some r →
      s.loop.polls = before ++ p :: after → p.node = r.node → (∀ q ∈ before, q.node ≠ r.node) →
      (∀ q ∈ before ++ after, q.slot ≠ p.slot) →
      ∃ t, exec (.seatReply bytes) s = .next t ∧ t.loop.polls = before ++ after ∧
        t = { s with
          nodes := t.nodes, jacks := t.jacks, mixer := { s.mixer with codes := t.mixer.codes },
          loop := t.loop, link := { s.link with notices := t.link.notices, lost := t.link.lost } } ∧
        (∀ j, nodeOf j ≠ p.node → t.jack j = s.jack j ∧ t.code j = s.code j) ∧
        (∀ j u, nodeOf j = p.node → (s.jack j).update = some u → u.carriedBy = some p.slot →
          (t.jack j).confirmed = some (u.slot, u.code)) ∧
        (∀ j, nodeOf j = p.node → (∀ u, (s.jack j).update = some u → u.carriedBy ≠ some p.slot) →
          (t.jack j).confirmed = (s.jack j).confirmed) ∧
        let left := fun j : Jack =>
          if ((s.jack j).update.any fun u => decide (u.carriedBy = some p.slot)) = true then none
          else (s.jack j).update
        (p.detached = true ∨ (s.node p.node).declared = false →
          t.nodes = s.nodes ∧ t.link = s.link ∧ t.mixer = s.mixer ∧
          ∀ j, nodeOf j = p.node →
            t.jack j = { s.jack j with update := left j, confirmed := (t.jack j).confirmed }) ∧
        (p.detached = false → (s.node p.node).declared = true →
          t.nodes = s.nodes.write p.node { s.node p.node with state := .online, misses := 0 } ∧
          ((s.node p.node).state = .offline → Noted t (.nodeBack p.node)) ∧
          ∀ (j : Jack) (pos : Fin 4), nodeOf j = p.node → j.val % 4 = pos.val →
            let x := s.answeredJack r j pos
            t.jack j = { x with
              update := (t.jack j).update, confirmed := (t.jack j).confirmed } ∧
            ((x.language ≠ (s.jack j).language ∨ t.code j ≠ s.code j) ∨
                (s.node p.node).state = .offline →
              (t.jack j).update = some ⟨x.language, t.code j, none⟩) ∧
            ((x.state, x.language, x.volume) ≠
                ((s.jack j).state, (s.jack j).language, (s.jack j).volume) →
              t.code j = t.gainCode j ∧
                Noted t (.jackChange j x.state x.language x.volume (t.code j))) ∧
            (x.state = (s.jack j).state → (∀ e ∈ r.events, e.1 ≠ pos) →
              t.code j = s.code j ∧ ((s.node p.node).state = .online →
                (t.jack j).update = left j)))) ∧
    (∀ k, s.op.state = .dormant ∨ (∀ p ∈ s.loop.polls, p.slot ≠ k) →
      exec (.responseTimerExpiry k) s = .next s) ∧
    (∀ k p before after, s.op.state ≠ .dormant → s.loop.polls = before ++ p :: after →
      p.slot = k → (∀ q ∈ before ++ after, q.slot ≠ k) →
      ∃ t, exec (.responseTimerExpiry k) s = .next t ∧ t.loop.polls = before ++ after ∧
        t = { s with
          nodes := t.nodes, jacks := t.jacks, mixer := { s.mixer with codes := t.mixer.codes },
          loop := t.loop, link := t.link } ∧
        (∀ j, nodeOf j ≠ p.node → t.jack j = s.jack j ∧ t.code j = s.code j) ∧
        (p.detached = true ∨ (s.node p.node).declared = false ∨ (s.node p.node).misses ≤ 1 ∨
            (s.node p.node).state = .offline →
          t.mixer = s.mixer ∧ ∀ j, nodeOf j = p.node → t.jack j = { s.jack j with
            update := (s.jack j).update.map fun u => { u with
              carriedBy := if u.carriedBy = some k then none else u.carriedBy } }) ∧
        (p.detached = true ∨ (s.node p.node).declared = false →
          t.nodes = s.nodes ∧ t.link = s.link) ∧
        (p.detached = false → (s.node p.node).declared = true →
          (2 ≤ (s.node p.node).misses → (s.node p.node).state = .online →
            t.nodes = s.nodes.write p.node { s.node p.node with state := .offline, misses := 3 } ∧
            t.link = (notify (.nodeLost p.node) s).link ∧
            ∀ j, nodeOf j = p.node → t.jack j = { s.jack j with
              state := .unknown, sense := none, update := none, confirmed := none }) ∧
          ((s.node p.node).misses ≤ 1 ∨ (s.node p.node).state = .offline →
            t.nodes = s.nodes.write p.node { s.node p.node with
              misses := min 3 ((s.node p.node).misses + 1) } ∧ t.link = s.link))) ∧
    (s.op.state ≠ .layover ∨ s.loop.roundTimer = none → exec .roundTimerExpiry s = .next s) ∧
    (s.op.state = .layover → s.loop.roundTimer.isSome = true →
      exec .roundTimerExpiry s = .next { s with loop := { s.loop with
        roundTimer := some 1000,
        due := decide (s.loop.next ≠ none) || s.loop.due,
        round := if s.loop.next = none then (s.loop.round + 1) % 8 else s.loop.round,
        next :=
          if s.loop.next = none then
            if ∃ n : Node, (s.node n).declared = true ∧
                ((s.node n).state = .online ∨ (s.loop.round + 1) % 8 = 0) then some 0
            else none
          else s.loop.next } })

/-! ## Lighting -/

/-- ZONES and ZONE_SET refuse an operation, mask, zone or flag out of range with RANGE; otherwise ZONES
writes the base levels of its mask and answers with all eight, and ZONE_SET writes on-level and NIGHT_ONLY
(R149). Every effective target is then the one R147 gives; a changed target fades over the request's fade
time, or over RELEASE_FADE for ZONE_SET, and an unchanged one goes on as it was with the supply ON. The supply
follows the targets (R154): OFF with a target above 0 it begins to settle, for no time at LAMP_SETTLE 0, and
ON its off timer runs while every zone is dark. The zones, the supply with its two timers and the reply
queue are all that change. -/
def Obligations.ZoneRequestsSetTargets : Prop :=
  ∀ (tag : Byte) (s : State), LinkFree s →
    let target := fun (u : State) (z : Zone) =>
      let rest := fun level : Nat =>
        if (u.zone z).nightOnly = true ∧ u.lamps.day = .day then 0 else level
      match u.op.state with
      | .run => if (u.zone z).owner = none then rest (u.zone z).base else (u.zone z).overlay.getD 0
      | .layover =>
        if u.setup.courtesyMask.getLsbD z.val then rest u.setup.courtesyLevel else 0
      | .dormant => 0
    let follows := fun t : State =>
      t.lamps = { s.lamps with
        supply := t.lamps.supply, settle := t.lamps.settle, off := t.lamps.off } ∧
      (s.lamps.supply = .settling ∨ s.lamps.supply = .faulted ∨
          (s.lamps.supply = .off ∧ ∀ z, (t.zone z).target = 0) → t.lamps = s.lamps) ∧
      (s.lamps.supply = .on → t.lamps = { s.lamps with
        off := if ∀ z, (t.zone z).target = 0 ∧ (t.zone z).output = 0 then
          some (s.lamps.off.getD 10000) else none }) ∧
      (s.lamps.supply = .off → (∃ z, 0 < (t.zone z).target) →
        (0 < s.setup.lampSettle → t.lamps = { s.lamps with
          supply := .settling, settle := some s.setup.lampSettle }) ∧
        (s.setup.lampSettle = 0 → t.lamps.supply = .on))
    (∀ op mask level fade, 3 < op ∨ mask = 0 ∨ 255 < mask →
      exec (.zones tag op mask level fade) s = .next (s.refused 0x50 tag .range)) ∧
    (∀ zone onLevel night, 7 < zone ∨ 1 < night →
      exec (.zoneSet tag zone onLevel night) s = .next (s.refused 0x51 tag .range)) ∧
    (∀ (op : Nat) (mask : ZoneMask) (level fade : Nat), op ≤ 3 → mask ≠ 0 →
      let base := fun z : Zone =>
        let r := s.zone z
        if mask.getLsbD z.val = false then r.base
        else if op = 0 then level
        else if op = 1 then r.onLevel
        else if op = 2 then 0
        else if r.base = 0 then r.onLevel else 0
      ∃ t, exec (.zones tag op mask.toNat level fade) s = .next t ∧
        t = { s with zones := t.zones, lamps := t.lamps }.acked 0x50 tag
          (.bases (allZones.map base)) ∧ follows t ∧
        (∀ z, (t.zone z).base = base z ∧ (t.zone z).onLevel = (s.zone z).onLevel ∧
          (t.zone z).nightOnly = (s.zone z).nightOnly ∧ (t.zone z).owner = (s.zone z).owner ∧
          (t.zone z).overlay = (s.zone z).overlay ∧ (t.zone z).target = target t z ∧
          ((t.zone z).target ≠ (s.zone z).target → (t.zone z).fadeTime = min 10000 fade) ∧
          (s.lamps.supply = .on → (t.zone z).target = (s.zone z).target →
            t.zone z = { s.zone z with base := base z }) ∧
          (s.lamps.supply = .on → (t.zone z).target ≠ (s.zone z).target →
            (t.zone z).fadeStart = (s.zone z).output ∧ (t.zone z).elapsed = 0 ∧
            (t.zone z).output =
              if min 10000 fade = 0 then (t.zone z).target else (s.zone z).output))) ∧
    ∀ (z : Zone) (onLevel : Nat) (night : Bool),
      ∃ t, exec (.zoneSet tag z.val onLevel night.toNat) s = .next t ∧
        t = { s with zones := t.zones, lamps := t.lamps }.acked 0x51 tag .empty ∧ follows t ∧
        (t.zone z).onLevel = onLevel ∧ (t.zone z).nightOnly = night ∧
        (∀ y, (t.zone y).base = (s.zone y).base ∧ (t.zone y).target = target t y ∧
          ((t.zone y).target ≠ (s.zone y).target → (t.zone y).fadeTime = s.setup.releaseFade)) ∧
        ∀ y, y ≠ z → (t.zone y).onLevel = (s.zone y).onLevel ∧
          (t.zone y).nightOnly = (s.zone y).nightOnly

/-- DEFINE_CUE makes the tests of R150 in order and writes the cue whole. RUN_CUE makes those of R153 and
starts the cue at its first step on the SCENE player, the STOP player keeping its cue; STOP_CUE makes a
player IDLE. A step takes its zones, but SCENE none that STOP owns (R152). -/
def Obligations.CuesAreDefinedAndRun : Prop :=
  ∀ (tag : Byte) (s : State), LinkFree s →
    (∀ (cue passes : Nat) (steps : List CueStepForm),
      exec (.defineCue tag cue passes steps) s = .next (
        if h : cue < 32 then
          if 15 < passes ∨ steps.length = 0 ∨ 8 < steps.length ∨
              ∃ c ∈ steps, c.mask = 0 ∨ 255 < c.mask then
            s.refused 0x52 tag .range
          else if s.lamps.stopRun.map CueRun.cue = some ⟨cue, h⟩ ∨
              s.lamps.sceneRun.map CueRun.cue = some ⟨cue, h⟩ then
            s.refused 0x52 tag .inUse
          else
            { s with cues := s.cues.write ⟨cue, h⟩ (some {
                passes := passes,
                steps := steps.map fun c : CueStepForm =>
                  ⟨BitVec.ofNat 8 c.mask, c.level, min 10000 c.fade, min 10000 c.hold⟩ }) }.acked
              0x52 tag (.defined (if s.cues.read ⟨cue, h⟩ = none then .new else .replaced))
        else s.refused 0x52 tag .range)) ∧
    (∀ cue, 31 < cue → exec (.runCue tag cue) s = .next (s.refused 0x53 tag .range)) ∧
    (∀ i : CueIx, s.op.state ≠ .run →
      exec (.runCue tag i.val) s = .next (s.refused 0x53 tag .state)) ∧
    (∀ i : CueIx, s.op.state = .run → s.cues.read i = none →
      exec (.runCue tag i.val) s = .next (s.refused 0x53 tag .unknownId)) ∧
    (∀ (i : CueIx) (c : Cue) (first : CueStep), s.op.state = .run → s.cues.read i = some c →
      c.steps.head? = some first → ∃ t, exec (.runCue tag i.val) s = .next t ∧
        t = { s with zones := t.zones, lamps := t.lamps }.acked 0x53 tag
          (.cueBefore (s.lamps.sceneRun.map CueRun.cue)) ∧
        t.lamps.sceneRun = some ⟨i, 1, 1,
          if first.fade + first.hold = 0 then 10 else first.fade + first.hold⟩ ∧
        t.lamps.stopRun = s.lamps.stopRun ∧
        ∀ z : Zone, (t.zone z).base = (s.zone z).base ∧
          ((s.zone z).owner = some .stop →
            (t.zone z).owner = some .stop ∧ (t.zone z).overlay = (s.zone z).overlay) ∧
          ((s.zone z).owner ≠ some .stop → first.mask.getLsbD z.val = true →
            (t.zone z).owner = some .scene ∧ (t.zone z).overlay = some first.level ∧
            (t.zone z).target = first.level ∧
            ((s.zone z).target ≠ first.level → (t.zone z).fadeTime = first.fade)) ∧
          ((s.zone z).owner ≠ some .stop → first.mask.getLsbD z.val = false →
            (t.zone z).owner = none)) ∧
    (∀ player, 1 < player → exec (.stopCue tag player) s = .next (s.refused 0x54 tag .range)) ∧
    (∀ (p : CuePlayer) (code : Nat), code = (if p = .stop then 0 else 1) →
      (s.lamps.running p = none →
        exec (.stopCue tag code) s = .next (s.acked 0x54 tag (.cueBefore none))) ∧
      ∀ r, s.lamps.running p = some r → ∃ t, exec (.stopCue tag code) s = .next t ∧
        t = { s with zones := t.zones, lamps := t.lamps }.acked 0x54 tag (.cueBefore (some r.cue)) ∧
        t.lamps.running p = none ∧
        (∀ q, q ≠ p → t.lamps.running q = s.lamps.running q) ∧
        ∀ z : Zone, ((s.zone z).owner = some p → (t.zone z).owner = none ∧
            (t.zone z).overlay = none) ∧
          ((s.zone z).owner ≠ some p → (t.zone z).owner = (s.zone z).owner))

/-- When a cue player's step timer expires it takes the next step of its cue, or begins the next pass at
step 1, or, the last pass done, releases its zones and becomes IDLE (R152); an IDLE player has no timer.
The step timer is loaded with fade plus hold, 10 ms for 0. -/
def Obligations.CuePlayersStep : Prop :=
  ∀ (p : CuePlayer) (s : State),
    (s.lamps.running p = none → exec (.stepTimerExpiry p) s = .next s) ∧
    ∀ r c, s.lamps.running p = some r → s.cues.read r.cue = some c → 1 ≤ r.step →
      r.step ≤ c.steps.length →
      ∃ t, exec (.stepTimerExpiry p) s = .next t ∧
        t = { s with zones := t.zones, lamps := t.lamps } ∧
        (∀ q, q ≠ p → t.lamps.running q = s.lamps.running q) ∧
        (∀ z, (t.zone z).target = t.zoneTarget z) ∧
        (∀ next, c.steps[r.step]? = some next →
          t.lamps.running p = some ⟨r.cue, r.step + 1, r.pass,
            if next.fade + next.hold = 0 then 10 else next.fade + next.hold⟩ ∧
          ∀ z : Zone, (t.zone z).owner =
            if next.mask.getLsbD z.val = true ∧ ¬(p = .scene ∧ (s.zone z).owner = some .stop) then
              some p
            else (s.zone z).owner) ∧
        (∀ first, r.step = c.steps.length → c.passes = 0 ∨ r.pass < c.passes →
          c.steps.head? = some first →
          t.lamps.running p = some ⟨r.cue, 1, r.pass + 1,
            if first.fade + first.hold = 0 then 10 else first.fade + first.hold⟩) ∧
        (r.step = c.steps.length → c.passes ≠ 0 → c.passes ≤ r.pass →
          t.lamps.running p = none ∧
          ∀ z : Zone, (t.zone z).owner =
            if (s.zone z).owner = some p then none else (s.zone z).owner)

/-- The lamp supply (R154, R155, R148): 1 ms of the fade clock moves every fade on while it is ON; the
settle timer's expiry makes it ON, every fade beginning from dark and a zone of fade time 0 at its target;
the off timer's expiry with every zone dark makes it OFF, and with a zone not dark, which no run reaches,
changes nothing (the model's reading, assumption 28); the LAMP_FAULT line's active edge makes it FAULTED
with every zone dark and its notice; LIGHTS_CLEAR_FAULT is refused with STATE while the line is active, and
otherwise takes a FAULTED supply to OFF, with no target above 0. In other states these events change nothing
but the line's level. LAMP_EN is on in SETTLING and ON alone. What fade start and elapsed time hold while no
fade runs (0 from becoming ON and from LAMP_FAULT, their last values after a fade and in OFF by the off
timer) is the model's choice (assumption 33). -/
def Obligations.LampSupplyFollowsItsEvents : Prop :=
  ∀ (tag : Byte) (s : State),
    (s.lampEn = true ↔ s.lamps.supply = .settling ∨ s.lamps.supply = .on) ∧
    (s.lamps.supply ≠ .on → exec .fadeClockTick s = .next s) ∧
    (s.lamps.supply = .on → ∃ t, exec .fadeClockTick s = .next t ∧
      t = { s with zones := t.zones, lamps := { s.lamps with off := t.lamps.off } } ∧
      (∀ z, t.zone z =
        if (s.zone z).fadeTime ≤ (s.zone z).elapsed then s.zone z
        else { s.zone z with
          elapsed := (s.zone z).elapsed + 1,
          output :=
            if (s.zone z).fadeTime ≤ (s.zone z).elapsed + 1 then (s.zone z).target
            else if (s.zone z).fadeStart ≤ (s.zone z).target then
              (s.zone z).fadeStart + ((s.zone z).target - (s.zone z).fadeStart) *
                ((s.zone z).elapsed + 1) / (s.zone z).fadeTime
            else
              (s.zone z).fadeStart - ((s.zone z).fadeStart - (s.zone z).target) *
                ((s.zone z).elapsed + 1) / (s.zone z).fadeTime }) ∧
      t.lamps.off =
        if ∀ z, (t.zone z).target = 0 ∧ (t.zone z).output = 0 then some (s.lamps.off.getD 10000)
        else none) ∧
    (s.lamps.supply ≠ .settling ∨ s.lamps.settle = none →
      exec .lampSettleExpiry s = .next s) ∧
    (s.lamps.supply = .settling → s.lamps.settle.isSome = true →
      ∃ t, exec .lampSettleExpiry s = .next t ∧
        t = { s with zones := t.zones, lamps := { s.lamps with
          supply := .on, settle := none, off := t.lamps.off } } ∧
        (∀ z, (t.zone z).target = (s.zone z).target ∧ (t.zone z).elapsed = 0 ∧
          (t.zone z).output = if (s.zone z).fadeTime = 0 then (s.zone z).target else 0)) ∧
    (s.lamps.supply = .on → s.lamps.off.isSome = true →
      (∀ z, (s.zone z).target = 0 ∧ (s.zone z).output = 0) →
      exec .offTimerExpiry s =
        .next { s with lamps := { s.lamps with supply := .off, off := none } }) ∧
    (s.lamps.supply ≠ .on ∨ s.lamps.off = none ∨
        (∃ z, (s.zone z).target ≠ 0 ∨ (s.zone z).output ≠ 0) →
      exec .offTimerExpiry s = .next s) ∧
    (s.lamps.supply = .faulted → exec .lampFaultActiveEdge s =
      .next { s with lamps := { s.lamps with faultLine := true } }) ∧
    (s.lamps.supply ≠ .faulted → ∃ t, exec .lampFaultActiveEdge s = .next (notify .lampFault t) ∧
      t = { s with zones := t.zones, lamps := { s.lamps with
        faultLine := true, supply := .faulted, settle := none, off := none } } ∧
      ∀ z, t.zone z = { s.zone z with fadeStart := 0, elapsed := 0, output := 0 }) ∧
    exec .lampFaultInactiveEdge s =
      .next { s with lamps := { s.lamps with faultLine := false } } ∧
    (LinkFree s → s.lamps.faultLine = true →
      exec (.lightsClearFault tag) s = .next (s.refused 0x55 tag .state)) ∧
    (LinkFree s → s.lamps.faultLine = false →
      s.lamps.supply ≠ .faulted ∨ (∀ z, (s.zone z).target = 0) →
      exec (.lightsClearFault tag) s = .next
        ({ s with lamps := { s.lamps with
            supply := if s.lamps.supply = SupplyState.faulted then .off else s.lamps.supply } }.acked 0x55 tag
          (.supplyBefore s.lamps.supply))) ∧
    (LinkFree s → s.lamps.faultLine = false → s.lamps.supply = .faulted →
      (∃ z, 0 < (s.zone z).target) → 0 < s.setup.lampSettle →
      exec (.lightsClearFault tag) s = .next
        ({ s with lamps := { s.lamps with
            supply := .settling, settle := some s.setup.lampSettle } }.acked 0x55 tag
          (.supplyBefore .faulted)))

/-- A reading of the ambient sensor past the threshold of the day state adds 1 to the run count and any
other sets it to 0; the tenth changes the day state with its DAYLIGHT notice, and the effective targets
are decided again (R156). -/
def Obligations.AmbientReadingsChangeTheDay : Prop :=
  ∀ (reading : Nat) (s : State),
    let past := (s.lamps.day = .day ∧ reading < s.setup.dark) ∨
      (s.lamps.day = .night ∧ s.setup.light < reading)
    (¬past → exec (.ambientSample reading) s =
      .next { s with lamps := { s.lamps with ambient := reading, run := 0 } }) ∧
    (past → s.lamps.run ≤ 8 → exec (.ambientSample reading) s =
      .next { s with lamps := { s.lamps with ambient := reading, run := s.lamps.run + 1 } }) ∧
    (past → 9 ≤ s.lamps.run → ∃ t other, exec (.ambientSample reading) s = .next t ∧
      other ≠ s.lamps.day ∧ t.lamps.day = other ∧ t.lamps.run = 0 ∧ t.lamps.ambient = reading ∧
      t.link = (notify (.daylight other) s).link ∧ (∀ z, (t.zone z).target = t.zoneTarget z) ∧
      (∀ z, (t.zone z).target ≠ (s.zone z).target → (t.zone z).fadeTime = s.setup.releaseFade) ∧
      t = { s with lamps := t.lamps, zones := t.zones, link := t.link })

/-! ## The operating-state unit, setup and resets -/

/-- What each change of operating state makes of the unit's own fields, with its OP_STATE notice and cause
(R159 to R163): SET_STATE to each target it may take and its refusals, the IGN line's edges, and the
expiries of the unit's timers, one that a start byte at the same moment came before excepted (R162). Entry to LAYOVER from RUN clears the run (R60, R74, R94, R119), and entry to
DORMANT darkens every zone and empties every channel (R38, R157). -/
def Obligations.OperatingStateFollowsItsEvents : Prop :=
  ∀ (tag : Byte) (s : State),
    let told := fun (st : OpState) (cause : OpCause) (t : State) =>
      .opState st cause ∈ t.link.notices ∨ t.link.lost = true
    let toRun := fun (u : OpUnit) (cause : OpCause) (t : State) =>
      t.op = { u with
        state := .run, ampEn := true, settle := some 250, inactivity := none,
        ignOff := if u.ign then none else some 30000 } ∧
      told .run cause t ∧
      t.route.stale = (if s.route.state = .tracking then some (1000 * s.setup.staleTime) else none)
    let toLayover := fun (u : OpUnit) (cause : OpCause) (t : State) =>
      t.op = { u with
        state := .layover, ampEn := false, settle := none, inactivity := some 1800000,
        ignOff := none } ∧ told .layover cause t
    let cleared := fun t : State =>
      (∀ p, (t.prog p).player = .idle ∧ (t.prog p).active = none ∧ (t.prog p).staged = none ∧
        (t.prog p).stack = [] ∧ (t.prog p).queue = []) ∧
      (∀ g, t.group g = none) ∧ t.voice.guide = 0 ∧ t.voice.pa = .off ∧ t.ann.stop = none ∧
      t.mixer.bedState = .off ∧ (∀ j, t.code j = .mute) ∧ t.route.stale = none ∧
      t.lamps.stopRun = none ∧ t.lamps.sceneRun = none
    let toDormant := fun (cause : OpCause) (t : State) =>
      t.op = { s.op with
        state := .dormant, ampEn := false, settle := none, inactivity := none, ignOff := none } ∧
      told .dormant cause t ∧ (∀ z, (t.zone z).output = 0 ∧ (t.zone z).target = 0) ∧
      (∀ c, (t.chan c).state = .idle ∧ (t.chan c).fifo = []) ∧ t.loop.polls = [] ∧
      t.loop.next = none ∧ t.mixer.lift = 0 ∧ t.lamps.supply ≠ .on
    (LinkFree s →
      (∀ n, 2 < n → exec (.setState tag n) s = .next (s.refused 0x07 tag .range)) ∧
      (s.op.state = .run → exec (.setState tag 2) s = .next (s.refused 0x07 tag .state)) ∧
      (∀ n, (n, s.op.state) ∈ [(0, OpState.run), (1, .layover), (2, .dormant)] →
        exec (.setState tag n) s =
          .next (s.acked 0x07 tag (.stateChange s.op.state s.op.state))) ∧
      (s.op.state = .layover → ∃ t, exec (.setState tag 0) s = .next t ∧
        toRun s.op .setState t ∧
        t.link.replies = s.link.replies ++
          [⟨0x07, tag, .ack (.stateChange .layover .run), .nothing⟩]) ∧
      (s.op.state = .run → ∃ t, exec (.setState tag 1) s = .next t ∧
        toLayover s.op .setState t ∧ cleared t ∧
        t.link.replies = s.link.replies ++
          [⟨0x07, tag, .ack (.stateChange .run .layover), .nothing⟩]) ∧
      (s.op.state = .layover → ∃ t, exec (.setState tag 2) s = .next t ∧ toDormant .setState t ∧
        t.link.replies = s.link.replies ++
          [⟨0x07, tag, .ack (.stateChange .layover .dormant), .nothing⟩])) ∧
    (s.op.state = .run → exec .ignRisingEdge s =
      .next { s with op := { s.op with ign := true, ignOff := none } }) ∧
    (s.op.state = .layover → ∃ t, exec .ignRisingEdge s = .next t ∧
      toRun { s.op with ign := true } .ign t) ∧
    (s.op.state = .dormant → ∃ t, exec .ignRisingEdge s = .next t ∧
      toLayover { s.op with ign := true } .wake t) ∧
    exec .ignFallingEdge s = .next { s with op := { s.op with
      ign := false, ignOff := if s.op.state = .run then some 30000 else s.op.ignOff } } ∧
    (s.op.state ≠ .run ∨ s.op.ignOff = none → exec .ignOffTimerExpiry s = .next s) ∧
    (s.op.state = .run → s.op.ignOff.isSome = true → ∃ t, exec .ignOffTimerExpiry s = .next t ∧
      toLayover s.op .ign t ∧ cleared t) ∧
    (.inactivity ∈ s.overtaken → exec .inactivityTimerExpiry s =
      .next { s with overtaken := s.overtaken.erase .inactivity }) ∧
    (.inactivity ∉ s.overtaken → s.op.state ≠ .layover ∨ s.op.inactivity = none →
      exec .inactivityTimerExpiry s = .next s) ∧
    (.inactivity ∉ s.overtaken → s.op.state = .layover → s.op.inactivity.isSome = true →
      ∃ t, exec .inactivityTimerExpiry s = .next t ∧ toDormant .inactivity t) ∧
    exec .ampSettleTimerExpiry s = .next { s with op := { s.op with settle := none } }

/-- A hard reset gives every block the values of its chapter: LAYOVER with 30 min of inactivity to run, P0
alone enabled, everything empty, IDLE, dark and muted; GMIC and IGN are sampled, and an active LAMP_FAULT
line makes the lamp supply FAULTED with its notice, the only one (R165). That a frame on TXD, a pending
rate and a pending RESTART are dropped is the model's choice, and the commands that wait are the model's
own and stay (assumption 21). -/
def Obligations.HardResetGivesTheResetValues : Prop :=
  ∀ (gmic ign fault : Bool) (s : State), ∃ t,
    exec (.hardReset gmic ign fault) s = .next t ∧ t.pending = s.pending ∧ t.overtaken = [] ∧
    t.route = ⟨0, 0, 0, 0, .unset, none, 0, none⟩ ∧ t.clips = [] ∧
    t.setup.values = [250, 5, 0, 20, 30, 0, -1, 24, 1, 12, -12, 8, 0, 0, 500, 150, 200, 320, 0, 80] ∧
    t.store = ⟨.ready, 0, 12, none⟩ ∧
    (∀ c, t.chan c = ⟨.idle, 0, none, none, 0, 0, none, [], none⟩) ∧
    (∀ p, (t.prog p).enabled = decide (p = 0) ∧ (t.prog p).language = 0 ∧ (t.prog p).trim = 0 ∧
      (t.prog p).bed = true ∧ (t.prog p).underruns = 0 ∧ (t.prog p).player = .idle ∧
      (t.prog p).active = none ∧ (t.prog p).staged = none ∧ (t.prog p).stack = [] ∧
      (t.prog p).queue = []) ∧
    (∀ g, t.group g = none) ∧ t.voice = ⟨gmic, 0, .off, none⟩ ∧ (∀ i, t.stop i = none) ∧
    t.ann.stop = none ∧ t.mixer.bedState = .off ∧ t.mixer.bedClip = none ∧ t.mixer.bedGain = -36 ∧
    t.mixer.ducks = .fill 12 0 ∧ t.mixer.upper = ⟨0, .announce, -12, false⟩ ∧
    t.mixer.lower = ⟨0, .all, -12, true⟩ ∧ t.mixer.lift = 0 ∧ (∀ j, t.code j = .mute) ∧
    (∀ n, t.node n = ⟨false, .lower, .offline, 0⟩) ∧
    (∀ j, t.jack j = ⟨.unknown, none, 0, 8, false, none, none, none⟩) ∧
    t.loop.polls = [] ∧ t.loop.round = 0 ∧
    (∀ z, (t.zone z).base = 0 ∧ (t.zone z).onLevel = 200 ∧ (t.zone z).nightOnly = false ∧
      (t.zone z).owner = none ∧ (t.zone z).overlay = none ∧ (t.zone z).target = 0 ∧
      (t.zone z).output = 0) ∧
    (∀ c, t.cues.read c = none) ∧ t.lamps.stopRun = none ∧ t.lamps.sceneRun = none ∧
    t.lamps.supply = (if fault then SupplyState.faulted else .off) ∧ t.lamps.faultLine = fault ∧
    t.lamps.day = .day ∧ t.lamps.run = 0 ∧
    t.op = ⟨.layover, ign, none, some 1800000, none, false⟩ ∧
    t.link = ⟨0, none, .hunt, none, [], [], [], if fault then [.lampFault] else [], false, none,
      false, 0, 0, 0, 0⟩

/-- SETUP applies its list all or nothing: a list that names an unknown item, an item twice, or a value
outside the item's range is refused with RANGE naming the item of the first such pair and changes nothing.
A list without such a pair is refused naming STORE_BLOCKS where a defined clip would lie beyond the store,
or else DARK_THRESHOLD where it would not be below LIGHT_THRESHOLD. Every other list, the empty one too, is
written whole, and the ACK carries the number of its pairs. A changed PASS_MARGIN is followed by the pass
test of every stop (R96, R101), a changed DUCK_DEPTH limits the duck values (R120), a changed
HEADSET_CEILING gives every jack its code again, a changed code of a declared ONLINE node being a pending
update (R128, R136), and a changed COURTESY item decides the targets again over RELEASE_FADE (R147); the
other items act where they are next read. GET_SETUP reports the twenty values in the order of the table
(R166, 10.5). -/
def Obligations.SetupAppliesWhole : Prop :=
  ∀ (tag : Byte) (s : State), LinkFree s →
    let reject := fun item : Nat => { s with link := { s.link with
      replies := s.link.replies ++ [⟨0x03, tag, .refuseItem item, .nothing⟩] } }
    let lowest := fun item : Nat => [0, 1, 0, 0, 0, 0, -1, 0, 0, 0, -60, 0, 0, 0, 0, 0, 0, 0, 0,
      (0 : Int)].getD (item - 1) 0
    let highest := fun item : Nat => [2000, 30, 65535, 120, 200, 11, 31, 60, 8, 24, 0, 15, 11, 11,
      10000, 1000, 1023, 1023, 255, (255 : Int)].getD (item - 1) 0
    let fits := fun q : Nat × Int =>
      1 ≤ q.1 ∧ q.1 ≤ 20 ∧ lowest q.1 ≤ q.2 ∧ q.2 ≤ highest q.1
    (∀ before q after, (∀ x ∈ before, fits x) → (before.map Prod.fst).Nodup →
      ¬fits q ∨ q.1 ∈ before.map Prod.fst →
      exec (.setup tag (before ++ q :: after)) s = .next (reject q.1)) ∧
    (∀ pairs : List (Nat × Int), (∀ q ∈ pairs, fits q) → (pairs.map Prod.fst).Nodup →
      ∃ x : Setup, x.values = pairs.foldl (fun held q => held.set (q.1 - 1) q.2) s.setup.values ∧
        let sent := exec (.setup tag pairs) s
        let clipsFit := ∀ e ∈ s.clips, e.2.first + e.2.count ≤ x.storeBlocks
        let clamp := fun u : Nat =>
          if x.duckDepth = s.setup.duckDepth then u else min u x.duckDepth
        (¬clipsFit → sent = .next (reject 3)) ∧
        (clipsFit → x.light ≤ x.dark → sent = .next (reject 17)) ∧
        (clipsFit → x.dark < x.light → ∃ t, sent = .next t ∧ t.setup = x ∧
          t.link = { s.link with
            replies := s.link.replies ++ [⟨0x03, tag, .ack (.applied pairs.length), .nothing⟩],
            notices := t.link.notices, lost := t.link.lost } ∧
          t = { s with
            setup := x, link := t.link, stops := t.stops, jacks := t.jacks, zones := t.zones,
            lamps := { s.lamps with
              supply := t.lamps.supply, settle := t.lamps.settle, off := t.lamps.off },
            mixer := { s.mixer with
              ducks := t.mixer.ducks, upperDuck := t.mixer.upperDuck,
              lowerDuck := t.mixer.lowerDuck, codes := t.mixer.codes } } ∧
          (∀ i, t.stop i = (s.stop i).map fun y =>
            if x.passMargin = s.setup.passMargin ∨
                s.route.odo < 100 * y.arrival + 1000 * x.passMargin ∨ y.state = .passed ∨
                y.state = .skipped then y
            else if (y.state = .pending ∨ y.state = .due) ∧
                ¬(y.requestOnly = true ∧ y.latch = false) then
              { y with state := .skipped, skip := some .late }
            else { y with state := .passed, skip := none }) ∧
          (∀ i, t.stop i ≠ s.stop i → Told t 0x8B i.val) ∧
          (x.passMargin = s.setup.passMargin →
            t.link.notices = s.link.notices ∧ t.link.lost = s.link.lost) ∧
          (∀ p, t.mixer.ducks.read p = clamp (s.mixer.ducks.read p)) ∧
          t.mixer.upperDuck = clamp s.mixer.upperDuck ∧
          t.mixer.lowerDuck = clamp s.mixer.lowerDuck ∧
          (x.ceiling = s.setup.ceiling → t.mixer.codes = s.mixer.codes ∧ t.jacks = s.jacks) ∧
          (x.ceiling ≠ s.setup.ceiling → ∀ j, t.code j = t.gainCode j ∧
            t.jack j = { s.jack j with
              update :=
                if t.code j ≠ s.code j ∧ (s.node (nodeOf j)).declared = true ∧
                    (s.node (nodeOf j)).state = .online then
                  some ⟨(s.jack j).language, t.code j, none⟩
                else (s.jack j).update }) ∧
          (x.courtesyMask = s.setup.courtesyMask → x.courtesyLevel = s.setup.courtesyLevel →
            t.zones = s.zones ∧ t.lamps = s.lamps) ∧
          (x.courtesyMask ≠ s.setup.courtesyMask ∨ x.courtesyLevel ≠ s.setup.courtesyLevel →
            ∀ z, (t.zone z).target = t.zoneTarget z ∧
              ((t.zone z).target ≠ (s.zone z).target → (t.zone z).fadeTime = x.releaseFade) ∧
              ((t.zone z).target = (s.zone z).target → s.lamps.supply = .on →
                t.zone z = s.zone z)))) ∧
    exec (.getSetup tag) s = .next (s.acked 0x04 tag (.setupValues
      ([(s.setup.jumpLimit : Int), s.setup.staleTime, s.setup.storeBlocks, s.setup.resumeLimit,
        s.setup.passMargin, s.setup.fallback.val, (s.setup.doorCue.map Int.ofNat).getD (-1),
        s.setup.duckDepth, s.setup.liftSlope, s.setup.liftMax] ++
      [s.setup.ceiling, s.setup.stepDefault, s.setup.langUpper.val, s.setup.langLower.val,
        s.setup.releaseFade, s.setup.lampSettle, s.setup.dark, s.setup.light,
        s.setup.courtesyMask.toNat, s.setup.courtesyLevel])))

/-! ## What every step keeps -/

/-- The link's queues never hold more than R169, R170, R173 and R174 give them. -/
def Obligations.LinkQueuesStayBounded : Prop :=
  ∀ s t : State, LinkBounded s → step s = .next t → LinkBounded t

/-- No zone output is above 0 unless the lamp supply is ON (R154). -/
def Obligations.LampsStaySafe : Prop :=
  ∀ s t : State, LampsSafe s → step s = .next t → LampsSafe t

/-- At least one programme stays enabled, and every jack's language names an enabled programme (R134,
R40). -/
def Obligations.LanguagesStayEnabled : Prop :=
  ∀ s t : State, LanguagesEnabled s → step s = .next t → LanguagesEnabled t

/-- Every jack's current gain code stays the one that R127 computes from its inputs, so that no code is
above the ceiling in force. -/
def Obligations.CodesStayCurrent : Prop :=
  (∀ s t : State, CodesCurrent s → step s = .next t → CodesCurrent t) ∧
  ∀ (s : State) (j : Jack) (n : Nat), CodesCurrent s → s.code j = .level n → s.setup.ceiling ≤ 0 →
    -s.setup.ceiling ≤ (n : Int) ∧ n ≤ 120

/-- The setup items, the route clock, the operating-state unit and the clip directory stay within the
ranges and rules that R1, R2, R18, R19, R159 and 10.5 give them. -/
def Obligations.FieldsStayInRange : Prop :=
  (∀ s t : State, SetupInRange s.setup → step s = .next t → SetupInRange t.setup) ∧
  (∀ s t : State, RouteInRange s.route → step s = .next t → RouteInRange t.route) ∧
  (∀ s t : State, OpUnitInStep s.op → step s = .next t → OpUnitInStep t.op) ∧
  (∀ s t : State, ClipsFit s → step s = .next t → ClipsFit t)

/-- The part right after reset meets every property that the statements above say each step keeps, and so
does the state that a hard reset leaves, for every level of GMIC, IGN and LAMP_FAULT sampled at its end
(R165). State.reset is the one for inactive lines (the model's choice, assumption 3). -/
def Obligations.ResetMeetsTheInvariants : Prop :=
  State.reset = State.resetAt false false ∧
  ∀ (gmic ign : Bool) (t : State),
    (t = State.resetAt gmic ign ∨ ∃ fault s, exec (.hardReset gmic ign fault) s = .next t) →
    LinkBounded t ∧ LampsSafe t ∧ LanguagesEnabled t ∧ CodesCurrent t ∧ SetupInRange t.setup ∧
      RouteInRange t.route ∧ OpUnitInStep t.op ∧ ClipsFit t ∧ LinkFree t ∧ PlacesOrdered t
end

