-- ==== Sys2Proof/Laws/State.lean ====
section
/-! SUPPORT. One lemma per field per update of `State`, true by `rfl`, and the laws of `Table`. -/

namespace Sys2Proof

/-! ## Tables -/

@[simp] theorem Table.read_write_same {n : Nat} {α : Type} (t : Table n α) (i : Fin n) (x : α) :
    (t.write i x).read i = x := by
  simp [Table.read, Table.write]

theorem Table.read_write_other {n : Nat} {α : Type} (t : Table n α) (i k : Fin n) (x : α)
    (h : k ≠ i) : (t.write i x).read k = t.read k := by
  have h' : (i : Nat) ≠ (k : Nat) := fun e => h (Fin.ext e.symm)
  simp [Table.read, Table.write, h']

theorem Table.read_write {n : Nat} {α : Type} (t : Table n α) (i k : Fin n) (x : α) :
    (t.write i x).read k = if k = i then x else t.read k := by
  by_cases h : k = i
  · subst h; simp
  · rw [Table.read_write_other t i k x h, if_neg h]

@[simp] theorem Table.read_fill {n : Nat} {α : Type} (x : α) (i : Fin n) :
    (Table.fill n x).read i = x := by
  simp [Table.read, Table.fill]

@[simp] theorem Table.read_ofFn {n : Nat} {α : Type} (f : Fin n → α) (i : Fin n) :
    (Table.read ⟨Vector.ofFn f⟩ i) = f i := by
  simp [Table.read]

@[simp] theorem Table.read_map {n : Nat} {α β : Type} (v : Vector α n) (f : α → β) (i : Fin n) :
    (Table.read ⟨v.map f⟩ i) = f (Table.read ⟨v⟩ i) := by
  simp [Table.read]

/-- Tables that read alike at every index are equal. -/
theorem Table.ext_read {n : Nat} {α : Type} (t u : Table n α) (h : ∀ i, t.read i = u.read i) :
    t = u := by
  cases t with
  | mk a =>
    cases u with
    | mk b =>
      have : a = b := Vector.ext fun i hi => h ⟨i, hi⟩
      rw [this]

namespace Machine

variable (s : State)

/-! ## setProg -/

@[simp] theorem setProg_route (p : Prog) (x : Programme) : (s.setProg p x).route = s.route := rfl
@[simp] theorem setProg_setup (p : Prog) (x : Programme) : (s.setProg p x).setup = s.setup := rfl
@[simp] theorem setProg_clips (p : Prog) (x : Programme) : (s.setProg p x).clips = s.clips := rfl
@[simp] theorem setProg_store (p : Prog) (x : Programme) : (s.setProg p x).store = s.store := rfl
@[simp] theorem setProg_chans (p : Prog) (x : Programme) : (s.setProg p x).chans = s.chans := rfl
@[simp] theorem setProg_arrivals (p : Prog) (x : Programme) : (s.setProg p x).arrivals = s.arrivals := rfl
@[simp] theorem setProg_groups (p : Prog) (x : Programme) : (s.setProg p x).groups = s.groups := rfl
@[simp] theorem setProg_releases (p : Prog) (x : Programme) : (s.setProg p x).releases = s.releases := rfl
@[simp] theorem setProg_voice (p : Prog) (x : Programme) : (s.setProg p x).voice = s.voice := rfl
@[simp] theorem setProg_stops (p : Prog) (x : Programme) : (s.setProg p x).stops = s.stops := rfl
@[simp] theorem setProg_ann (p : Prog) (x : Programme) : (s.setProg p x).ann = s.ann := rfl
@[simp] theorem setProg_mixer (p : Prog) (x : Programme) : (s.setProg p x).mixer = s.mixer := rfl
@[simp] theorem setProg_nodes (p : Prog) (x : Programme) : (s.setProg p x).nodes = s.nodes := rfl
@[simp] theorem setProg_jacks (p : Prog) (x : Programme) : (s.setProg p x).jacks = s.jacks := rfl
@[simp] theorem setProg_loop (p : Prog) (x : Programme) : (s.setProg p x).loop = s.loop := rfl
@[simp] theorem setProg_zones (p : Prog) (x : Programme) : (s.setProg p x).zones = s.zones := rfl
@[simp] theorem setProg_cues (p : Prog) (x : Programme) : (s.setProg p x).cues = s.cues := rfl
@[simp] theorem setProg_lamps (p : Prog) (x : Programme) : (s.setProg p x).lamps = s.lamps := rfl
@[simp] theorem setProg_op (p : Prog) (x : Programme) : (s.setProg p x).op = s.op := rfl
@[simp] theorem setProg_link (p : Prog) (x : Programme) : (s.setProg p x).link = s.link := rfl
@[simp] theorem setProg_now (p : Prog) (x : Programme) : (s.setProg p x).now = s.now := rfl
@[simp] theorem setProg_overtaken (p : Prog) (x : Programme) : (s.setProg p x).overtaken = s.overtaken := rfl
@[simp] theorem setProg_pending (p : Prog) (x : Programme) : (s.setProg p x).pending = s.pending := rfl

@[simp] theorem setProg_prog_same (p : Prog) (x : Programme) : (s.setProg p x).prog p = x := by
  simp [State.setProg, State.prog]

theorem setProg_prog (p k : Prog) (x : Programme) :
    (s.setProg p x).prog k = if k = p then x else s.prog k := by
  simp [State.setProg, State.prog, Table.read_write]

@[simp] theorem setProg_chan (p : Prog) (x : Programme) (k : Chan) :
    (s.setProg p x).chan k = s.chan k := rfl
@[simp] theorem setProg_group (p : Prog) (x : Programme) (k : GroupSlot) :
    (s.setProg p x).group k = s.group k := rfl
@[simp] theorem setProg_stop (p : Prog) (x : Programme) (k : StopIx) :
    (s.setProg p x).stop k = s.stop k := rfl
@[simp] theorem setProg_node (p : Prog) (x : Programme) (k : Node) :
    (s.setProg p x).node k = s.node k := rfl
@[simp] theorem setProg_jack (p : Prog) (x : Programme) (k : Jack) :
    (s.setProg p x).jack k = s.jack k := rfl
@[simp] theorem setProg_zone (p : Prog) (x : Programme) (k : Zone) :
    (s.setProg p x).zone k = s.zone k := rfl

/-! ## setChan -/

@[simp] theorem setChan_route (c : Chan) (x : Channel) : (s.setChan c x).route = s.route := rfl
@[simp] theorem setChan_setup (c : Chan) (x : Channel) : (s.setChan c x).setup = s.setup := rfl
@[simp] theorem setChan_clips (c : Chan) (x : Channel) : (s.setChan c x).clips = s.clips := rfl
@[simp] theorem setChan_store (c : Chan) (x : Channel) : (s.setChan c x).store = s.store := rfl
@[simp] theorem setChan_progs (c : Chan) (x : Channel) : (s.setChan c x).progs = s.progs := rfl
@[simp] theorem setChan_arrivals (c : Chan) (x : Channel) : (s.setChan c x).arrivals = s.arrivals := rfl
@[simp] theorem setChan_groups (c : Chan) (x : Channel) : (s.setChan c x).groups = s.groups := rfl
@[simp] theorem setChan_releases (c : Chan) (x : Channel) : (s.setChan c x).releases = s.releases := rfl
@[simp] theorem setChan_voice (c : Chan) (x : Channel) : (s.setChan c x).voice = s.voice := rfl
@[simp] theorem setChan_stops (c : Chan) (x : Channel) : (s.setChan c x).stops = s.stops := rfl
@[simp] theorem setChan_ann (c : Chan) (x : Channel) : (s.setChan c x).ann = s.ann := rfl
@[simp] theorem setChan_mixer (c : Chan) (x : Channel) : (s.setChan c x).mixer = s.mixer := rfl
@[simp] theorem setChan_nodes (c : Chan) (x : Channel) : (s.setChan c x).nodes = s.nodes := rfl
@[simp] theorem setChan_jacks (c : Chan) (x : Channel) : (s.setChan c x).jacks = s.jacks := rfl
@[simp] theorem setChan_loop (c : Chan) (x : Channel) : (s.setChan c x).loop = s.loop := rfl
@[simp] theorem setChan_zones (c : Chan) (x : Channel) : (s.setChan c x).zones = s.zones := rfl
@[simp] theorem setChan_cues (c : Chan) (x : Channel) : (s.setChan c x).cues = s.cues := rfl
@[simp] theorem setChan_lamps (c : Chan) (x : Channel) : (s.setChan c x).lamps = s.lamps := rfl
@[simp] theorem setChan_op (c : Chan) (x : Channel) : (s.setChan c x).op = s.op := rfl
@[simp] theorem setChan_link (c : Chan) (x : Channel) : (s.setChan c x).link = s.link := rfl
@[simp] theorem setChan_now (c : Chan) (x : Channel) : (s.setChan c x).now = s.now := rfl
@[simp] theorem setChan_overtaken (c : Chan) (x : Channel) : (s.setChan c x).overtaken = s.overtaken := rfl
@[simp] theorem setChan_pending (c : Chan) (x : Channel) : (s.setChan c x).pending = s.pending := rfl

@[simp] theorem setChan_chan_same (c : Chan) (x : Channel) : (s.setChan c x).chan c = x := by
  simp [State.setChan, State.chan]

theorem setChan_chan (c k : Chan) (x : Channel) :
    (s.setChan c x).chan k = if k = c then x else s.chan k := by
  simp [State.setChan, State.chan, Table.read_write]

@[simp] theorem setChan_prog (c : Chan) (x : Channel) (k : Prog) :
    (s.setChan c x).prog k = s.prog k := rfl
@[simp] theorem setChan_group (c : Chan) (x : Channel) (k : GroupSlot) :
    (s.setChan c x).group k = s.group k := rfl
@[simp] theorem setChan_stop (c : Chan) (x : Channel) (k : StopIx) :
    (s.setChan c x).stop k = s.stop k := rfl
@[simp] theorem setChan_node (c : Chan) (x : Channel) (k : Node) :
    (s.setChan c x).node k = s.node k := rfl
@[simp] theorem setChan_jack (c : Chan) (x : Channel) (k : Jack) :
    (s.setChan c x).jack k = s.jack k := rfl
@[simp] theorem setChan_zone (c : Chan) (x : Channel) (k : Zone) :
    (s.setChan c x).zone k = s.zone k := rfl

/-! ## setGroup -/

@[simp] theorem setGroup_route (g : GroupSlot) (x : Option Group) : (s.setGroup g x).route = s.route := rfl
@[simp] theorem setGroup_setup (g : GroupSlot) (x : Option Group) : (s.setGroup g x).setup = s.setup := rfl
@[simp] theorem setGroup_clips (g : GroupSlot) (x : Option Group) : (s.setGroup g x).clips = s.clips := rfl
@[simp] theorem setGroup_store (g : GroupSlot) (x : Option Group) : (s.setGroup g x).store = s.store := rfl
@[simp] theorem setGroup_chans (g : GroupSlot) (x : Option Group) : (s.setGroup g x).chans = s.chans := rfl
@[simp] theorem setGroup_progs (g : GroupSlot) (x : Option Group) : (s.setGroup g x).progs = s.progs := rfl
@[simp] theorem setGroup_arrivals (g : GroupSlot) (x : Option Group) : (s.setGroup g x).arrivals = s.arrivals := rfl
@[simp] theorem setGroup_releases (g : GroupSlot) (x : Option Group) : (s.setGroup g x).releases = s.releases := rfl
@[simp] theorem setGroup_voice (g : GroupSlot) (x : Option Group) : (s.setGroup g x).voice = s.voice := rfl
@[simp] theorem setGroup_stops (g : GroupSlot) (x : Option Group) : (s.setGroup g x).stops = s.stops := rfl
@[simp] theorem setGroup_ann (g : GroupSlot) (x : Option Group) : (s.setGroup g x).ann = s.ann := rfl
@[simp] theorem setGroup_mixer (g : GroupSlot) (x : Option Group) : (s.setGroup g x).mixer = s.mixer := rfl
@[simp] theorem setGroup_nodes (g : GroupSlot) (x : Option Group) : (s.setGroup g x).nodes = s.nodes := rfl
@[simp] theorem setGroup_jacks (g : GroupSlot) (x : Option Group) : (s.setGroup g x).jacks = s.jacks := rfl
@[simp] theorem setGroup_loop (g : GroupSlot) (x : Option Group) : (s.setGroup g x).loop = s.loop := rfl
@[simp] theorem setGroup_zones (g : GroupSlot) (x : Option Group) : (s.setGroup g x).zones = s.zones := rfl
@[simp] theorem setGroup_cues (g : GroupSlot) (x : Option Group) : (s.setGroup g x).cues = s.cues := rfl
@[simp] theorem setGroup_lamps (g : GroupSlot) (x : Option Group) : (s.setGroup g x).lamps = s.lamps := rfl
@[simp] theorem setGroup_op (g : GroupSlot) (x : Option Group) : (s.setGroup g x).op = s.op := rfl
@[simp] theorem setGroup_link (g : GroupSlot) (x : Option Group) : (s.setGroup g x).link = s.link := rfl
@[simp] theorem setGroup_now (g : GroupSlot) (x : Option Group) : (s.setGroup g x).now = s.now := rfl
@[simp] theorem setGroup_overtaken (g : GroupSlot) (x : Option Group) : (s.setGroup g x).overtaken = s.overtaken := rfl
@[simp] theorem setGroup_pending (g : GroupSlot) (x : Option Group) : (s.setGroup g x).pending = s.pending := rfl

@[simp] theorem setGroup_group_same (g : GroupSlot) (x : Option Group) : (s.setGroup g x).group g = x := by
  simp [State.setGroup, State.group]

theorem setGroup_group (g k : GroupSlot) (x : Option Group) :
    (s.setGroup g x).group k = if k = g then x else s.group k := by
  simp [State.setGroup, State.group, Table.read_write]

@[simp] theorem setGroup_prog (g : GroupSlot) (x : Option Group) (k : Prog) :
    (s.setGroup g x).prog k = s.prog k := rfl
@[simp] theorem setGroup_chan (g : GroupSlot) (x : Option Group) (k : Chan) :
    (s.setGroup g x).chan k = s.chan k := rfl
@[simp] theorem setGroup_stop (g : GroupSlot) (x : Option Group) (k : StopIx) :
    (s.setGroup g x).stop k = s.stop k := rfl
@[simp] theorem setGroup_node (g : GroupSlot) (x : Option Group) (k : Node) :
    (s.setGroup g x).node k = s.node k := rfl
@[simp] theorem setGroup_jack (g : GroupSlot) (x : Option Group) (k : Jack) :
    (s.setGroup g x).jack k = s.jack k := rfl
@[simp] theorem setGroup_zone (g : GroupSlot) (x : Option Group) (k : Zone) :
    (s.setGroup g x).zone k = s.zone k := rfl

/-! ## setStop -/

@[simp] theorem setStop_route (i : StopIx) (x : Option Stop) : (s.setStop i x).route = s.route := rfl
@[simp] theorem setStop_setup (i : StopIx) (x : Option Stop) : (s.setStop i x).setup = s.setup := rfl
@[simp] theorem setStop_clips (i : StopIx) (x : Option Stop) : (s.setStop i x).clips = s.clips := rfl
@[simp] theorem setStop_store (i : StopIx) (x : Option Stop) : (s.setStop i x).store = s.store := rfl
@[simp] theorem setStop_chans (i : StopIx) (x : Option Stop) : (s.setStop i x).chans = s.chans := rfl
@[simp] theorem setStop_progs (i : StopIx) (x : Option Stop) : (s.setStop i x).progs = s.progs := rfl
@[simp] theorem setStop_arrivals (i : StopIx) (x : Option Stop) : (s.setStop i x).arrivals = s.arrivals := rfl
@[simp] theorem setStop_groups (i : StopIx) (x : Option Stop) : (s.setStop i x).groups = s.groups := rfl
@[simp] theorem setStop_releases (i : StopIx) (x : Option Stop) : (s.setStop i x).releases = s.releases := rfl
@[simp] theorem setStop_voice (i : StopIx) (x : Option Stop) : (s.setStop i x).voice = s.voice := rfl
@[simp] theorem setStop_ann (i : StopIx) (x : Option Stop) : (s.setStop i x).ann = s.ann := rfl
@[simp] theorem setStop_mixer (i : StopIx) (x : Option Stop) : (s.setStop i x).mixer = s.mixer := rfl
@[simp] theorem setStop_nodes (i : StopIx) (x : Option Stop) : (s.setStop i x).nodes = s.nodes := rfl
@[simp] theorem setStop_jacks (i : StopIx) (x : Option Stop) : (s.setStop i x).jacks = s.jacks := rfl
@[simp] theorem setStop_loop (i : StopIx) (x : Option Stop) : (s.setStop i x).loop = s.loop := rfl
@[simp] theorem setStop_zones (i : StopIx) (x : Option Stop) : (s.setStop i x).zones = s.zones := rfl
@[simp] theorem setStop_cues (i : StopIx) (x : Option Stop) : (s.setStop i x).cues = s.cues := rfl
@[simp] theorem setStop_lamps (i : StopIx) (x : Option Stop) : (s.setStop i x).lamps = s.lamps := rfl
@[simp] theorem setStop_op (i : StopIx) (x : Option Stop) : (s.setStop i x).op = s.op := rfl
@[simp] theorem setStop_link (i : StopIx) (x : Option Stop) : (s.setStop i x).link = s.link := rfl
@[simp] theorem setStop_now (i : StopIx) (x : Option Stop) : (s.setStop i x).now = s.now := rfl
@[simp] theorem setStop_overtaken (i : StopIx) (x : Option Stop) : (s.setStop i x).overtaken = s.overtaken := rfl
@[simp] theorem setStop_pending (i : StopIx) (x : Option Stop) : (s.setStop i x).pending = s.pending := rfl

@[simp] theorem setStop_stop_same (i : StopIx) (x : Option Stop) : (s.setStop i x).stop i = x := by
  simp [State.setStop, State.stop]

theorem setStop_stop (i k : StopIx) (x : Option Stop) :
    (s.setStop i x).stop k = if k = i then x else s.stop k := by
  simp [State.setStop, State.stop, Table.read_write]

@[simp] theorem setStop_prog (i : StopIx) (x : Option Stop) (k : Prog) :
    (s.setStop i x).prog k = s.prog k := rfl
@[simp] theorem setStop_chan (i : StopIx) (x : Option Stop) (k : Chan) :
    (s.setStop i x).chan k = s.chan k := rfl
@[simp] theorem setStop_group (i : StopIx) (x : Option Stop) (k : GroupSlot) :
    (s.setStop i x).group k = s.group k := rfl
@[simp] theorem setStop_node (i : StopIx) (x : Option Stop) (k : Node) :
    (s.setStop i x).node k = s.node k := rfl
@[simp] theorem setStop_jack (i : StopIx) (x : Option Stop) (k : Jack) :
    (s.setStop i x).jack k = s.jack k := rfl
@[simp] theorem setStop_zone (i : StopIx) (x : Option Stop) (k : Zone) :
    (s.setStop i x).zone k = s.zone k := rfl

/-! ## setNode -/

@[simp] theorem setNode_route (n : Node) (x : NodeRec) : (s.setNode n x).route = s.route := rfl
@[simp] theorem setNode_setup (n : Node) (x : NodeRec) : (s.setNode n x).setup = s.setup := rfl
@[simp] theorem setNode_clips (n : Node) (x : NodeRec) : (s.setNode n x).clips = s.clips := rfl
@[simp] theorem setNode_store (n : Node) (x : NodeRec) : (s.setNode n x).store = s.store := rfl
@[simp] theorem setNode_chans (n : Node) (x : NodeRec) : (s.setNode n x).chans = s.chans := rfl
@[simp] theorem setNode_progs (n : Node) (x : NodeRec) : (s.setNode n x).progs = s.progs := rfl
@[simp] theorem setNode_arrivals (n : Node) (x : NodeRec) : (s.setNode n x).arrivals = s.arrivals := rfl
@[simp] theorem setNode_groups (n : Node) (x : NodeRec) : (s.setNode n x).groups = s.groups := rfl
@[simp] theorem setNode_releases (n : Node) (x : NodeRec) : (s.setNode n x).releases = s.releases := rfl
@[simp] theorem setNode_voice (n : Node) (x : NodeRec) : (s.setNode n x).voice = s.voice := rfl
@[simp] theorem setNode_stops (n : Node) (x : NodeRec) : (s.setNode n x).stops = s.stops := rfl
@[simp] theorem setNode_ann (n : Node) (x : NodeRec) : (s.setNode n x).ann = s.ann := rfl
@[simp] theorem setNode_mixer (n : Node) (x : NodeRec) : (s.setNode n x).mixer = s.mixer := rfl
@[simp] theorem setNode_jacks (n : Node) (x : NodeRec) : (s.setNode n x).jacks = s.jacks := rfl
@[simp] theorem setNode_loop (n : Node) (x : NodeRec) : (s.setNode n x).loop = s.loop := rfl
@[simp] theorem setNode_zones (n : Node) (x : NodeRec) : (s.setNode n x).zones = s.zones := rfl
@[simp] theorem setNode_cues (n : Node) (x : NodeRec) : (s.setNode n x).cues = s.cues := rfl
@[simp] theorem setNode_lamps (n : Node) (x : NodeRec) : (s.setNode n x).lamps = s.lamps := rfl
@[simp] theorem setNode_op (n : Node) (x : NodeRec) : (s.setNode n x).op = s.op := rfl
@[simp] theorem setNode_link (n : Node) (x : NodeRec) : (s.setNode n x).link = s.link := rfl
@[simp] theorem setNode_now (n : Node) (x : NodeRec) : (s.setNode n x).now = s.now := rfl
@[simp] theorem setNode_overtaken (n : Node) (x : NodeRec) : (s.setNode n x).overtaken = s.overtaken := rfl
@[simp] theorem setNode_pending (n : Node) (x : NodeRec) : (s.setNode n x).pending = s.pending := rfl

@[simp] theorem setNode_node_same (n : Node) (x : NodeRec) : (s.setNode n x).node n = x := by
  simp [State.setNode, State.node]

theorem setNode_node (n k : Node) (x : NodeRec) :
    (s.setNode n x).node k = if k = n then x else s.node k := by
  simp [State.setNode, State.node, Table.read_write]

@[simp] theorem setNode_prog (n : Node) (x : NodeRec) (k : Prog) :
    (s.setNode n x).prog k = s.prog k := rfl
@[simp] theorem setNode_chan (n : Node) (x : NodeRec) (k : Chan) :
    (s.setNode n x).chan k = s.chan k := rfl
@[simp] theorem setNode_group (n : Node) (x : NodeRec) (k : GroupSlot) :
    (s.setNode n x).group k = s.group k := rfl
@[simp] theorem setNode_stop (n : Node) (x : NodeRec) (k : StopIx) :
    (s.setNode n x).stop k = s.stop k := rfl
@[simp] theorem setNode_jack (n : Node) (x : NodeRec) (k : Jack) :
    (s.setNode n x).jack k = s.jack k := rfl
@[simp] theorem setNode_zone (n : Node) (x : NodeRec) (k : Zone) :
    (s.setNode n x).zone k = s.zone k := rfl

/-! ## setJack -/

@[simp] theorem setJack_route (j : Jack) (x : JackRec) : (s.setJack j x).route = s.route := rfl
@[simp] theorem setJack_setup (j : Jack) (x : JackRec) : (s.setJack j x).setup = s.setup := rfl
@[simp] theorem setJack_clips (j : Jack) (x : JackRec) : (s.setJack j x).clips = s.clips := rfl
@[simp] theorem setJack_store (j : Jack) (x : JackRec) : (s.setJack j x).store = s.store := rfl
@[simp] theorem setJack_chans (j : Jack) (x : JackRec) : (s.setJack j x).chans = s.chans := rfl
@[simp] theorem setJack_progs (j : Jack) (x : JackRec) : (s.setJack j x).progs = s.progs := rfl
@[simp] theorem setJack_arrivals (j : Jack) (x : JackRec) : (s.setJack j x).arrivals = s.arrivals := rfl
@[simp] theorem setJack_groups (j : Jack) (x : JackRec) : (s.setJack j x).groups = s.groups := rfl
@[simp] theorem setJack_releases (j : Jack) (x : JackRec) : (s.setJack j x).releases = s.releases := rfl
@[simp] theorem setJack_voice (j : Jack) (x : JackRec) : (s.setJack j x).voice = s.voice := rfl
@[simp] theorem setJack_stops (j : Jack) (x : JackRec) : (s.setJack j x).stops = s.stops := rfl
@[simp] theorem setJack_ann (j : Jack) (x : JackRec) : (s.setJack j x).ann = s.ann := rfl
@[simp] theorem setJack_mixer (j : Jack) (x : JackRec) : (s.setJack j x).mixer = s.mixer := rfl
@[simp] theorem setJack_nodes (j : Jack) (x : JackRec) : (s.setJack j x).nodes = s.nodes := rfl
@[simp] theorem setJack_loop (j : Jack) (x : JackRec) : (s.setJack j x).loop = s.loop := rfl
@[simp] theorem setJack_zones (j : Jack) (x : JackRec) : (s.setJack j x).zones = s.zones := rfl
@[simp] theorem setJack_cues (j : Jack) (x : JackRec) : (s.setJack j x).cues = s.cues := rfl
@[simp] theorem setJack_lamps (j : Jack) (x : JackRec) : (s.setJack j x).lamps = s.lamps := rfl
@[simp] theorem setJack_op (j : Jack) (x : JackRec) : (s.setJack j x).op = s.op := rfl
@[simp] theorem setJack_link (j : Jack) (x : JackRec) : (s.setJack j x).link = s.link := rfl
@[simp] theorem setJack_now (j : Jack) (x : JackRec) : (s.setJack j x).now = s.now := rfl
@[simp] theorem setJack_overtaken (j : Jack) (x : JackRec) : (s.setJack j x).overtaken = s.overtaken := rfl
@[simp] theorem setJack_pending (j : Jack) (x : JackRec) : (s.setJack j x).pending = s.pending := rfl

@[simp] theorem setJack_jack_same (j : Jack) (x : JackRec) : (s.setJack j x).jack j = x := by
  simp [State.setJack, State.jack]

theorem setJack_jack (j k : Jack) (x : JackRec) :
    (s.setJack j x).jack k = if k = j then x else s.jack k := by
  simp [State.setJack, State.jack, Table.read_write]

@[simp] theorem setJack_prog (j : Jack) (x : JackRec) (k : Prog) :
    (s.setJack j x).prog k = s.prog k := rfl
@[simp] theorem setJack_chan (j : Jack) (x : JackRec) (k : Chan) :
    (s.setJack j x).chan k = s.chan k := rfl
@[simp] theorem setJack_group (j : Jack) (x : JackRec) (k : GroupSlot) :
    (s.setJack j x).group k = s.group k := rfl
@[simp] theorem setJack_stop (j : Jack) (x : JackRec) (k : StopIx) :
    (s.setJack j x).stop k = s.stop k := rfl
@[simp] theorem setJack_node (j : Jack) (x : JackRec) (k : Node) :
    (s.setJack j x).node k = s.node k := rfl
@[simp] theorem setJack_zone (j : Jack) (x : JackRec) (k : Zone) :
    (s.setJack j x).zone k = s.zone k := rfl

/-! ## setZone -/

@[simp] theorem setZone_route (z : Zone) (x : ZoneRec) : (s.setZone z x).route = s.route := rfl
@[simp] theorem setZone_setup (z : Zone) (x : ZoneRec) : (s.setZone z x).setup = s.setup := rfl
@[simp] theorem setZone_clips (z : Zone) (x : ZoneRec) : (s.setZone z x).clips = s.clips := rfl
@[simp] theorem setZone_store (z : Zone) (x : ZoneRec) : (s.setZone z x).store = s.store := rfl
@[simp] theorem setZone_chans (z : Zone) (x : ZoneRec) : (s.setZone z x).chans = s.chans := rfl
@[simp] theorem setZone_progs (z : Zone) (x : ZoneRec) : (s.setZone z x).progs = s.progs := rfl
@[simp] theorem setZone_arrivals (z : Zone) (x : ZoneRec) : (s.setZone z x).arrivals = s.arrivals := rfl
@[simp] theorem setZone_groups (z : Zone) (x : ZoneRec) : (s.setZone z x).groups = s.groups := rfl
@[simp] theorem setZone_releases (z : Zone) (x : ZoneRec) : (s.setZone z x).releases = s.releases := rfl
@[simp] theorem setZone_voice (z : Zone) (x : ZoneRec) : (s.setZone z x).voice = s.voice := rfl
@[simp] theorem setZone_stops (z : Zone) (x : ZoneRec) : (s.setZone z x).stops = s.stops := rfl
@[simp] theorem setZone_ann (z : Zone) (x : ZoneRec) : (s.setZone z x).ann = s.ann := rfl
@[simp] theorem setZone_mixer (z : Zone) (x : ZoneRec) : (s.setZone z x).mixer = s.mixer := rfl
@[simp] theorem setZone_nodes (z : Zone) (x : ZoneRec) : (s.setZone z x).nodes = s.nodes := rfl
@[simp] theorem setZone_jacks (z : Zone) (x : ZoneRec) : (s.setZone z x).jacks = s.jacks := rfl
@[simp] theorem setZone_loop (z : Zone) (x : ZoneRec) : (s.setZone z x).loop = s.loop := rfl
@[simp] theorem setZone_cues (z : Zone) (x : ZoneRec) : (s.setZone z x).cues = s.cues := rfl
@[simp] theorem setZone_lamps (z : Zone) (x : ZoneRec) : (s.setZone z x).lamps = s.lamps := rfl
@[simp] theorem setZone_op (z : Zone) (x : ZoneRec) : (s.setZone z x).op = s.op := rfl
@[simp] theorem setZone_link (z : Zone) (x : ZoneRec) : (s.setZone z x).link = s.link := rfl
@[simp] theorem setZone_now (z : Zone) (x : ZoneRec) : (s.setZone z x).now = s.now := rfl
@[simp] theorem setZone_overtaken (z : Zone) (x : ZoneRec) : (s.setZone z x).overtaken = s.overtaken := rfl
@[simp] theorem setZone_pending (z : Zone) (x : ZoneRec) : (s.setZone z x).pending = s.pending := rfl

@[simp] theorem setZone_zone_same (z : Zone) (x : ZoneRec) : (s.setZone z x).zone z = x := by
  simp [State.setZone, State.zone]

theorem setZone_zone (z k : Zone) (x : ZoneRec) :
    (s.setZone z x).zone k = if k = z then x else s.zone k := by
  simp [State.setZone, State.zone, Table.read_write]

@[simp] theorem setZone_prog (z : Zone) (x : ZoneRec) (k : Prog) :
    (s.setZone z x).prog k = s.prog k := rfl
@[simp] theorem setZone_chan (z : Zone) (x : ZoneRec) (k : Chan) :
    (s.setZone z x).chan k = s.chan k := rfl
@[simp] theorem setZone_group (z : Zone) (x : ZoneRec) (k : GroupSlot) :
    (s.setZone z x).group k = s.group k := rfl
@[simp] theorem setZone_stop (z : Zone) (x : ZoneRec) (k : StopIx) :
    (s.setZone z x).stop k = s.stop k := rfl
@[simp] theorem setZone_node (z : Zone) (x : ZoneRec) (k : Node) :
    (s.setZone z x).node k = s.node k := rfl
@[simp] theorem setZone_jack (z : Zone) (x : ZoneRec) (k : Jack) :
    (s.setZone z x).jack k = s.jack k := rfl

/-! ## Timers loaded again -/

/-- A reload changes nothing but the list of overtaken expiries. -/
theorem overtake_eq (r : Reloaded) (left : Option Nat) :
    overtake r left s = { s with overtaken := (overtake r left s).overtaken } := by
  unfold overtake
  split <;> rfl

/-- A reload of a timer that is not due changes nothing. -/
theorem overtake_of_not_due (r : Reloaded) (left : Option Nat) (h : left ≠ some 0) :
    overtake r left s = s := by
  simp [overtake, h]

/-- An expiry that no reload came before is made. -/
theorem unlessOvertaken_of_not_mem (r : Reloaded) (t : State) (h : r ∉ s.overtaken) :
    unlessOvertaken r t s = t := by
  simp [unlessOvertaken, h]

end Machine

end Sys2Proof
end

