-- ==== Sys2Proof/Laws/Calm.lean ====
section
/-! SUPPORT. What every operation of the players, the group table, the stop table and the cue players
leaves alone, said once (`Calm`): all but their places, channels, groups, stops, zones and cue players,
and of the link all but the notice queue and its lost flag. Each lemma has the form
`Calm s t → Calm s (operation t)`, so that a composed operation is followed by applying them in turn. -/

namespace Sys2Proof.Machine

/-- The fields that no operation of the players, groups, stops and cue players writes, with the bounds
they keep. -/
structure Calm (s t : State) : Prop where
  route : t.route = s.route
  setup : t.setup = s.setup
  clips : t.clips = s.clips
  store : t.store = s.store
  arrivals : t.arrivals = s.arrivals
  voice : t.voice = s.voice
  mixer : t.mixer = s.mixer
  nodes : t.nodes = s.nodes
  jacks : t.jacks = s.jacks
  loop : t.loop = s.loop
  cues : t.cues = s.cues
  op : t.op = s.op
  now : t.now = s.now
  overtaken : t.overtaken = s.overtaken
  pending : t.pending = s.pending
  link : t.link = { s.link with notices := t.link.notices, lost := t.link.lost }
  room : s.link.notices.length ≤ 24 → t.link.notices.length ≤ 24
  record : ∀ p, (t.prog p).enabled = (s.prog p).enabled ∧ (t.prog p).language = (s.prog p).language ∧
    (t.prog p).trim = (s.prog p).trim ∧ (t.prog p).bed = (s.prog p).bed ∧
    (t.prog p).underruns = (s.prog p).underruns ∧ (t.prog p).voiced = (s.prog p).voiced
  sensors : t.lamps.faultLine = s.lamps.faultLine ∧ t.lamps.day = s.lamps.day ∧
    t.lamps.run = s.lamps.run ∧ t.lamps.ambient = s.lamps.ambient
  dark : LampsSafe s → LampsSafe t

/-- `Calm` holds of a state and itself. -/
theorem Calm.refl (s : State) : Calm s s where
  route := rfl
  setup := rfl
  clips := rfl
  store := rfl
  arrivals := rfl
  voice := rfl
  mixer := rfl
  nodes := rfl
  jacks := rfl
  loop := rfl
  cues := rfl
  op := rfl
  now := rfl
  overtaken := rfl
  pending := rfl
  link := rfl
  room := id
  record := fun _ => ⟨rfl, rfl, rfl, rfl, rfl, rfl⟩
  sensors := ⟨rfl, rfl, rfl, rfl⟩
  dark := id

variable {s t : State}

/-! ## Single updates -/

/-- Writes of the groups, the channels, the stops, the announcement and the release count are calm. -/
theorem Calm.places (h : Calm s t) (chans : Table 13 Channel) (groups : Table 16 (Option Group))
    (stops : Table 64 (Option Stop)) (ann : Announcement) (releases : Nat) :
    Calm s { t with
      chans := chans, groups := groups, stops := stops, ann := ann, releases := releases } where
  route := h.route
  setup := h.setup
  clips := h.clips
  store := h.store
  arrivals := h.arrivals
  voice := h.voice
  mixer := h.mixer
  nodes := h.nodes
  jacks := h.jacks
  loop := h.loop
  cues := h.cues
  op := h.op
  now := h.now
  overtaken := h.overtaken
  pending := h.pending
  link := h.link
  room := h.room
  record := h.record
  sensors := h.sensors
  dark := h.dark

theorem setChan_calm (h : Calm s t) (c : Chan) (x : Channel) : Calm s (t.setChan c x) :=
  h.places (t.chans.write c x) t.groups t.stops t.ann t.releases

theorem setGroup_calm (h : Calm s t) (g : GroupSlot) (x : Option Group) : Calm s (t.setGroup g x) :=
  h.places t.chans (t.groups.write g x) t.stops t.ann t.releases

theorem setStop_calm (h : Calm s t) (i : StopIx) (x : Option Stop) : Calm s (t.setStop i x) :=
  h.places t.chans t.groups (t.stops.write i x) t.ann t.releases

theorem ann_calm (h : Calm s t) (a : Announcement) : Calm s { t with ann := a } :=
  h.places t.chans t.groups t.stops a t.releases

theorem releases_calm (h : Calm s t) (n : Nat) : Calm s { t with releases := n } :=
  h.places t.chans t.groups t.stops t.ann n

theorem groups_calm (h : Calm s t) (g : Table 16 (Option Group)) : Calm s { t with groups := g } :=
  h.places t.chans g t.stops t.ann t.releases

/-- A programme changed in its player and places, its record kept, is a calm change. -/
theorem mapProg_calm (h : Calm s t) (p : Prog) (f : Programme → Programme)
    (hf : ∀ x, (f x).enabled = x.enabled ∧ (f x).language = x.language ∧ (f x).trim = x.trim ∧
      (f x).bed = x.bed ∧ (f x).underruns = x.underruns ∧ (f x).voiced = x.voiced := by
        exact fun _ => ⟨rfl, rfl, rfl, rfl, rfl, rfl⟩) :
    Calm s (t.mapProg p f) where
  route := h.route
  setup := h.setup
  clips := h.clips
  store := h.store
  arrivals := h.arrivals
  voice := h.voice
  mixer := h.mixer
  nodes := h.nodes
  jacks := h.jacks
  loop := h.loop
  cues := h.cues
  op := h.op
  now := h.now
  overtaken := h.overtaken
  pending := h.pending
  link := h.link
  room := h.room
  record := fun k => by
    have hk := h.record k
    by_cases e : k = p
    · subst e
      obtain ⟨a, b, c, d, u, v⟩ := hf (t.prog k)
      simp only [State.mapProg, setProg_prog_same, a, b, c, d, u, v]
      exact hk
    · simp only [State.mapProg, setProg_prog, if_neg e]
      exact hk
  sensors := h.sensors
  dark := h.dark

/-- The length of a queue in which a notice has replaced one of its kind and object. -/
theorem coalesce_length {n : Notice} : ∀ {l q : List Notice}, coalesce n l = some q → q.length = l.length
  | [], _, h => by simp [coalesce] at h
  | m :: rest, q, h => by
    unfold coalesce at h
    split at h
    · cases h; rfl
    · cases hr : coalesce n rest with
      | none => simp [hr] at h
      | some q' =>
        simp [hr] at h
        subst h
        simp [coalesce_length hr]

theorem notify_calm (h : Calm s t) (n : Notice) : Calm s (notify n t) := by
  have hl := h.link
  unfold notify
  split
  · rename_i q hq
    exact { h with
      link := by rw [hl]
      room := fun r => by have e := coalesce_length hq; have := h.room r; simp only; omega }
  · split
    · exact { h with
        link := by rw [hl]
        room := fun r => by simp; omega }
    · exact { h with
        link := by rw [hl]
        room := h.room }

theorem forAll_calm {α : Type} {f : α → State → State} (hf : ∀ a t, Calm s t → Calm s (f a t)) :
    ∀ (l : List α) {t : State}, Calm s t → Calm s (forAll l f t)
  | [], _, h => h
  | a :: l, t, h => by
    have := forAll_calm hf l (hf a t h)
    simpa [forAll] using this

/-! ## The lighting unit -/

/-- Zones and lamps written so that the dark stay dark and the sensors are kept. -/
theorem lights_calm (h : Calm s t) (zones : Table 8 ZoneRec) (lamps : Lamps)
    (hs : lamps.faultLine = t.lamps.faultLine ∧ lamps.day = t.lamps.day ∧ lamps.run = t.lamps.run ∧
      lamps.ambient = t.lamps.ambient)
    (hd : LampsSafe t → LampsSafe { t with zones := zones, lamps := lamps }) :
    Calm s { t with zones := zones, lamps := lamps } where
  route := h.route
  setup := h.setup
  clips := h.clips
  store := h.store
  arrivals := h.arrivals
  voice := h.voice
  mixer := h.mixer
  nodes := h.nodes
  jacks := h.jacks
  loop := h.loop
  cues := h.cues
  op := h.op
  now := h.now
  overtaken := h.overtaken
  pending := h.pending
  link := h.link
  room := h.room
  record := h.record
  sensors := by obtain ⟨a, b, c, d⟩ := h.sensors; simp_all
  dark := fun d => hd (h.dark d)

theorem setZone_calm (h : Calm s t) (z : Zone) (x : ZoneRec)
    (hx : t.lamps.supply ≠ .on → (t.zone z).output = 0 → x.output = 0) :
    Calm s (t.setZone z x) :=
  lights_calm h (t.zones.write z x) t.lamps ⟨rfl, rfl, rfl, rfl⟩ (fun d ns k => by
    show ((t.setZone z x).zone k).output = 0
    rw [setZone_zone]
    split
    · exact hx ns (d ns z)
    · exact d ns k)

theorem mapZones_calm (h : Calm s t) (f : Zone → ZoneRec → ZoneRec)
    (hf : ∀ z x, x.output = 0 → (f z x).output = 0) : Calm s (mapZones f t) :=
  forAll_calm (fun z _ hu => setZone_calm hu z _ (fun _ e => hf z _ e)) _ h

/-- A supply that stays away from ON, with the lamps' other fields. -/
theorem lamps_calm (h : Calm s t) (lamps : Lamps)
    (hs : lamps.faultLine = t.lamps.faultLine ∧ lamps.day = t.lamps.day ∧ lamps.run = t.lamps.run ∧
      lamps.ambient = t.lamps.ambient)
    (hon : lamps.supply ≠ .on → t.lamps.supply ≠ .on) : Calm s { t with lamps := lamps } :=
  lights_calm h t.zones lamps hs (fun d ns k => d (hon ns) k)

theorem ZoneRec.hold_output (z : ZoneRec) : z.hold.output = 0 := rfl

theorem head_off_output (z : ZoneRec) (target f : Nat) : (z.head false target f).output = 0 := by
  simp [ZoneRec.head]

theorem mapZones_lamps (f : Zone → ZoneRec → ZoneRec) : ∀ t : State, (mapZones f t).lamps = t.lamps := by
  have : ∀ (l : List Zone) (t : State),
      (forAll l (fun z u => u.setZone z (f z (u.zone z))) t).lamps = t.lamps := by
    intro l
    induction l with
    | nil => intro t; rfl
    | cons z l ih => intro t; exact ih (t.setZone z (f z (t.zone z)))
  exact this _

/-- `mapZones` changes nothing but the zones. -/
theorem mapZones_eq (f : Zone → ZoneRec → ZoneRec) (t : State) :
    mapZones f t = { t with zones := (mapZones f t).zones } := by
  have : ∀ (l : List Zone) (t : State),
      forAll l (fun z u => u.setZone z (f z (u.zone z))) t =
        { t with zones := (forAll l (fun z u => u.setZone z (f z (u.zone z))) t).zones } := by
    intro l
    induction l with
    | nil => intro t; rfl
    | cons z l ih =>
      intro t
      have := ih (t.setZone z (f z (t.zone z)))
      simp only [forAll, List.foldl_cons] at this ⊢
      rw [this]
      rfl
  exact this _ t

theorem supplyOn_calm (h : Calm s t) : Calm s (supplyOn t) := by
  unfold supplyOn
  rw [mapZones_eq]
  exact lights_calm h _ _ ⟨rfl, rfl, rfl, rfl⟩ (fun _ ns => absurd rfl ns)

theorem offTimer_calm (h : Calm s t) : Calm s (offTimer t) :=
  lamps_calm h _ ⟨rfl, rfl, rfl, rfl⟩ id

theorem supplySettle_calm (h : Calm s t) (off : t.lamps.supply = .off) : Calm s (supplySettle t) := by
  unfold supplySettle
  split
  · exact offTimer_calm (supplyOn_calm h)
  · exact lamps_calm h _ ⟨rfl, rfl, rfl, rfl⟩ (fun _ => by simp [off])

theorem supplyFollow_calm (h : Calm s t) : Calm s (supplyFollow t) := by
  unfold supplyFollow
  split
  · split
    · exact supplySettle_calm h ‹_›
    · exact h
  · exact offTimer_calm h
  · exact h
  · exact h

theorem retarget_calm (h : Calm s t) (fade : Zone → Nat) : Calm s (retarget fade t) := by
  unfold retarget
  refine supplyFollow_calm (forAll_calm (fun z u hu => ?_) _ h)
  split
  · exact hu
  · refine setZone_calm hu z _ (fun ns _ => ?_)
    simp [ns, head_off_output]

theorem retargetSlow_calm (h : Calm s t) : Calm s (retargetSlow t) := retarget_calm h _

theorem setRunning_calm (h : Calm s t) (r : Option CueRun) (p : CuePlayer) :
    Calm s { t with lamps := t.lamps.setRunning r p } := by
  cases p <;> exact lamps_calm h _ ⟨rfl, rfl, rfl, rfl⟩ id

theorem releaseZones_calm (h : Calm s t) (p : CuePlayer) : Calm s (releaseZones p t) :=
  mapZones_calm h _ (fun _ x e => by split <;> exact e)

theorem takeZones_calm (h : Calm s t) (p : CuePlayer) (c : CueStep) : Calm s (takeZones p c t) :=
  mapZones_calm h _ (fun _ x e => by split <;> exact e)

theorem takeStep_calm (h : Calm s t) (p : CuePlayer) (n : CueIx) (k pass : Nat) (c : CueStep) :
    Calm s (takeStep p n k pass c t) :=
  setRunning_calm (takeZones_calm h p c) _ p

theorem idlePlayer_calm (h : Calm s t) (p : CuePlayer) : Calm s (idlePlayer p t) :=
  setRunning_calm (releaseZones_calm h p) _ p

theorem endCue_calm (h : Calm s t) (p : CuePlayer) : Calm s (endCue p t) :=
  retargetSlow_calm (idlePlayer_calm h p)

theorem cueStart_calm (h : Calm s t) (p : CuePlayer) (n : Nat) : Calm s (cueStart p n t) := by
  unfold cueStart
  split
  · exact h
  · split
    · exact h
    · split
      · exact retarget_calm (takeStep_calm (releaseZones_calm h p) _ _ _ _ _) _
      · exact h

theorem cueStart?_calm (h : Calm s t) (p : CuePlayer) (o : Option Nat) : Calm s (cueStart? p o t) := by
  cases o with
  | none => exact h
  | some n => exact cueStart_calm h p n

/-! ## Channels and players -/

theorem loadChan_calm (h : Calm s t) (c : Chan) (clip start : Nat) : Calm s (loadChan c clip start t) :=
  setChan_calm h _ _

theorem stageChan_calm (h : Calm s t) (c : Chan) (clip start : Nat) :
    Calm s (stageChan c clip start t) :=
  setChan_calm h _ _

theorem withdrawChan_calm (h : Calm s t) (c : Chan) (g : Tag) : Calm s (withdrawChan c g t) :=
  setChan_calm h _ _

theorem flushChan_calm (h : Calm s t) (c : Chan) : Calm s (flushChan c t) := setChan_calm h _ _

theorem mapGroup_calm (h : Calm s t) (id : Nat) (f : Group → Group) : Calm s (t.mapGroup id f) := by
  unfold State.mapGroup
  split
  · exact setGroup_calm h _ _
  · exact h

theorem clearReady_calm (h : Calm s t) (id : Nat) (p : Prog) : Calm s (clearReady id p t) :=
  mapGroup_calm h _ _

theorem disenrol_calm (h : Calm s t) (id : Nat) (p : Prog) : Calm s (disenrol id p t) :=
  mapGroup_calm h _ _

theorem endPriming_calm (h : Calm s t) (p : Prog) : Calm s (endPriming p t) := by
  unfold endPriming
  split
  · exact flushChan_calm (mapProg_calm h _ _) _
  · exact h

theorem setQueue_calm (h : Calm s t) (p : Prog) (q : List Segment) : Calm s (setQueue p q t) :=
  mapProg_calm h _ _

theorem unwait_calm (h : Calm s t) (p : Prog) (g : Segment) : Calm s (unwait p g t) := by
  have hp := endPriming_calm
    (mapProg_calm h p (fun x => { x with queue := x.queue.map fun k =>
      if k.id = g.id then { k with state := .queued, held := none } else k })) p
  unfold unwait
  split
  · exact clearReady_calm hp _ _
  · exact hp

theorem enqueue_calm (h : Calm s t) (p : Prog) (g : Segment) : Calm s (enqueue p g t) := by
  have hq := setQueue_calm h p (insertSegment t g (t.prog p).queue)
  unfold enqueue
  dsimp only
  split
  · split
    · exact unwait_calm hq _ _
    · exact hq
  · exact hq

theorem leaveGroup_calm (h : Calm s t) (p : Prog) (g : Segment) : Calm s (leaveGroup p g t) := by
  unfold leaveGroup
  split
  · split
    · exact disenrol_calm (endPriming_calm h _) _ _
    · exact disenrol_calm h _ _
  · exact h

theorem miss_calm (h : Calm s t) (p : Prog) (g : Segment) (r : MissReason) : Calm s (miss p g r t) :=
  notify_calm (leaveGroup_calm h _ _) _

theorem done_calm (h : Calm s t) (p : Prog) (g : Segment) : Calm s (done p g t) :=
  notify_calm (leaveGroup_calm h _ _) _

theorem missAll_calm (h : Calm s t) (p : Prog) (gs : List Segment) (r : MissReason) :
    Calm s (missAll p gs r t) :=
  forAll_calm (fun g _ hu => miss_calm hu p g r) _ h

theorem reportHeard_calm (h : Calm s t) (p : Prog) (i : StopIx) : Calm s (reportHeard p i t) := by
  unfold reportHeard
  split
  · exact ann_calm h _
  · exact h

theorem reportCut_calm (h : Calm s t) (p : Prog) (i : StopIx) : Calm s (reportCut p i t) := by
  unfold reportCut
  split
  · exact ann_calm h _
  · exact h

theorem activate_calm (h : Calm s t) (p : Prog) (g : Segment) (tag : Tag) (o : Nat) (r : Bool) :
    Calm s (activate p g tag o r t) := by
  unfold activate
  dsimp only
  split
  · exact cueStart?_calm (notify_calm (mapProg_calm h _ _) _) _ _
  · exact notify_calm (mapProg_calm h _ _) _

theorem startSegment_calm (h : Calm s t) (p : Prog) (g : Segment) (o : Nat) (r : Bool) :
    Calm s (startSegment p g o r t) :=
  activate_calm
    (mapProg_calm (loadChan_calm h _ _ _) _ _) _ _ _ _ _

theorem startStopItem_calm (h : Calm s t) (p : Prog) (i : StopItem) : Calm s (startStopItem p i t) := by
  unfold startStopItem
  dsimp only
  split
  · exact mapProg_calm (stageChan_calm (loadChan_calm h _ _ _) _ _ _) _ _
  · exact mapProg_calm (loadChan_calm h _ _ _) _ _

theorem startLive_calm (h : Calm s t) (p : Prog) (i : Item) : Calm s (startLive p i t) :=
  mapProg_calm (flushChan_calm h _) _ _

theorem stageSegment_calm (h : Calm s t) (p : Prog) (g : Segment) : Calm s (stageSegment p g t) := by
  unfold stageSegment
  exact mapProg_calm (stageChan_calm h _ _ _) _ _

theorem primeHead_calm (h : Calm s t) (p : Prog) (g : Segment) (rest : List Segment) (c : ClipChoice) :
    Calm s (primeHead p g rest c t) := by
  unfold primeHead
  exact mapProg_calm (loadChan_calm h _ _ _) _ _

theorem pump_calm (p : Prog) : ∀ (fuel : Nat) {t : State}, Calm s t → Calm s (pump p fuel t)
  | 0, _, h => h
  | fuel + 1, t, h => by
    unfold pump
    split
    · exact h
    · split
      · split
        · split
          · split
            · exact pump_calm p fuel (startSegment_calm (setQueue_calm h _ _) _ _ _ _)
            · exact pump_calm p fuel (miss_calm (setQueue_calm h _ _) _ _ _)
          · split
            · split
              · exact pump_calm p fuel (stageSegment_calm (setQueue_calm h _ _) _ _)
              · exact pump_calm p fuel (miss_calm (setQueue_calm h _ _) _ _ _)
            · exact h
        · exact h
      · split
        · split
          · split
            · exact primeHead_calm h _ _ _ _
            · exact setQueue_calm h _ _
          · exact pump_calm p fuel (miss_calm (setQueue_calm h _ _) _ _ _)
        · split
          · split
            · exact primeHead_calm h _ _ _ _
            · exact pump_calm p fuel (miss_calm (setQueue_calm h _ _) _ _ _)
          · exact h

theorem act_calm (h : Calm s t) (p : Prog) : Calm s (act p t) := pump_calm p _ h

theorem goIdle_calm (h : Calm s t) (p : Prog) : Calm s (goIdle p t) :=
  act_calm (flushChan_calm (mapProg_calm h _ _) _) _

theorem resume_calm (h : Calm s t) (p : Prog) (e : Entry) : Calm s (resume p e t) := by
  cases e with
  | segment g => exact act_calm (startSegment_calm h _ _ _ _) _
  | stop i => exact startStopItem_calm h _ _
  | guide => exact startLive_calm h _ _

theorem popStack_calm (p : Prog) : ∀ (l : List Entry) {t : State}, Calm s t → Calm s (popStack p l t)
  | [], _, h => goIdle_calm h p
  | e :: below, t, h => by
    have ht : Calm s (t.mapProg p fun x => { x with stack := below }) :=
      mapProg_calm h _ _
    unfold popStack
    dsimp only
    split
    · exact resume_calm ht _ _
    · exact goIdle_calm h _
    · exact popStack_calm p below (miss_calm ht _ _ _)
    · exact popStack_calm p below (reportCut_calm ht _ _)
    · exact popStack_calm p below ht

theorem nextChoice_calm (h : Calm s t) (p : Prog) (c : Bool) : Calm s (nextChoice p c t) := by
  unfold nextChoice
  split
  · dsimp only
    split
    · exact act_calm (activate_calm (mapProg_calm h _ _) _ _ _ _ _) _
    · exact act_calm (startSegment_calm (mapProg_calm h _ _) _ _ _ _) _
  · exact popStack_calm p _ (mapProg_calm h _ _)

theorem endActive_calm (h : Calm s t) (p : Prog) : Calm s (endActive p t) :=
  nextChoice_calm (flushChan_calm (mapProg_calm h _ _) _) _ _

theorem unstage_calm (h : Calm s t) (p : Prog) : Calm s (unstage p t) := by
  unfold unstage
  split
  · exact enqueue_calm
      (withdrawChan_calm (mapProg_calm h _ _) _ _) _ _
  · exact h

theorem dropPriming_calm (h : Calm s t) (p : Prog) : Calm s (dropPriming p t) := by
  unfold dropPriming
  split
  · dsimp only
    split
    · exact clearReady_calm (mapProg_calm h _ _) _ _
    · exact mapProg_calm h _ _
  · exact h

theorem startItem_calm (h : Calm s t) (p : Prog) (e : Item) : Calm s (startItem p e t) := by
  cases e with
  | segment g tag pos => exact startSegment_calm h _ _ _ _
  | stop i tag lt pos => exact startStopItem_calm h _ _
  | guide => exact startLive_calm h _ _
  | driver => exact startLive_calm h _ _

theorem preempt_calm (h : Calm s t) (p : Prog) (e : Item) : Calm s (preempt p e t) := by
  unfold preempt
  dsimp only
  refine startItem_calm (dropPriming_calm ?_ _) _ _
  have hu := flushChan_calm (unstage_calm h p) (chanOf p)
  split
  · exact mapProg_calm hu _ _
  · exact mapProg_calm hu _ _

theorem request_calm (h : Calm s t) (p : Prog) (e : Item) : Calm s (request p e t).1 := by
  unfold request
  dsimp only
  repeat' split
  all_goals try dsimp only
  all_goals first
    | exact h
    | exact preempt_calm h _ _
    | exact mapProg_calm h _ _

/-! ## Groups -/

theorem startMember_calm (h : Calm s t) (g : Group) (p : Prog) : Calm s (startMember g p t) := by
  unfold startMember
  split
  · split
    · exact act_calm
        (activate_calm (mapProg_calm h _ _) _ _ _ _ _) _
    · exact h
  · exact h

theorem detachMember_calm (h : Calm s t) (g : Group) (p : Prog) : Calm s (detachMember g p t) := by
  unfold detachMember
  split
  · exact h
  · rename_i k _
    have ht : Calm s (if k.state = .waiting then endPriming p t else t) := by
      split
      · exact endPriming_calm h _
      · exact h
    dsimp only
    split
    · exact act_calm (miss_calm (mapProg_calm ht _ _) _ _ _) _
    · exact act_calm (mapProg_calm ht _ _) _

theorem release_calm (h : Calm s t) (slot : GroupSlot) (c : ReleaseCause) :
    Calm s (release slot c t) := by
  unfold release
  split
  · exact h
  · rename_i g _
    have hu := forAll_calm (fun p _ hu => detachMember_calm hu g p)
      (Mask.members (g.enrolled &&& ~~~ g.ready))
      (forAll_calm (fun p _ hu => startMember_calm hu g p) (Mask.members g.ready) h)
    dsimp only
    refine releases_calm (setGroup_calm (notify_calm ?_ _) _ _) _
    split
    · exact hu
    · exact cueStart?_calm hu _ _

theorem releaseIfReady_calm (h : Calm s t) (slot : GroupSlot) : Calm s (releaseIfReady slot t) := by
  unfold releaseIfReady
  split
  · split
    · exact release_calm h _ _
    · exact h
  · exact h

theorem armGroup_calm (h : Calm s t) (slot : GroupSlot) : Calm s (armGroup slot t) := by
  unfold armGroup
  split
  · exact h
  · rename_i g _
    have hu := forAll_calm (fun p _ hu => act_calm hu p) (Mask.members g.enrolled)
      (setGroup_calm h slot (some { g with state := .armed, timer := some (g.hold * 100) }))
    dsimp only
    split
    · exact release_calm hu _ _
    · exact hu

theorem dissolve_calm (h : Calm s t) (slot : GroupSlot) (r : MissReason) :
    Calm s (dissolve slot r t) := by
  unfold dissolve
  split
  · exact h
  · refine setGroup_calm (forAll_calm (fun p u hu => ?_) _ h) _ _
    split
    · exact miss_calm (mapProg_calm hu _ _) _ _ _
    · exact hu

theorem dissolveAndAct_calm (h : Calm s t) (slot : GroupSlot) (r : MissReason) (n : Option Notice) :
    Calm s (dissolveAndAct slot r n t) := by
  unfold dissolveAndAct
  dsimp only
  refine forAll_calm (fun p _ hu => act_calm hu p) _ ?_
  split
  · exact notify_calm (dissolve_calm h _ _) _
  · exact dissolve_calm h _ _

theorem testReady_calm (h : Calm s t) (p : Prog) : Calm s (testReady p t) := by
  unfold testReady
  split
  · split
    · split
      · dsimp only
        split
        · exact releaseIfReady_calm (setGroup_calm h _ _) _
        · exact h
      · exact h
    · exact h
  · exact h

/-! ## Stops -/

theorem stopNote_calm (h : Calm s t) (i : StopIx) (m : AnnMark) (a b c : Option ProgMask) :
    Calm s (stopNote i m a b c t) := by
  unfold stopNote
  split
  · exact h
  · exact notify_calm h _

theorem putStopState_calm (h : Calm s t) (i : StopIx) (st : StopState) (k : Option SkipReason) :
    Calm s (putStopState i st k t) := by
  unfold putStopState
  split
  · exact h
  · exact setStop_calm h _ _

theorem moveStop_calm (h : Calm s t) (i : StopIx) (st : StopState) (k : Option SkipReason) :
    Calm s (moveStop i st k t) :=
  stopNote_calm (putStopState_calm h _ _ _) _ _ _ _ _

theorem passTest_calm (h : Calm s t) (i : StopIx) : Calm s (passTest i t) := by
  unfold passTest
  split
  · exact h
  · split
    · split
      · exact moveStop_calm h _ _ _
      · exact h
    · exact h

theorem dueTest_calm (h : Calm s t) (i : StopIx) : Calm s (dueTest i t) := by
  unfold dueTest
  split
  · exact h
  · split
    · exact moveStop_calm h _ _ _
    · exact h

theorem dueTestQuiet_calm (h : Calm s t) (i : StopIx) : Calm s (dueTestQuiet i t) := by
  unfold dueTestQuiet
  split
  · exact h
  · split
    · exact putStopState_calm h _ _ _
    · exact h

theorem joinAnnouncement_calm (h : Calm s t) (i : StopIx) (r : Stop) (p : Prog) :
    Calm s (joinAnnouncement i r p t) := by
  unfold joinAnnouncement
  split
  · split
    · exact h
    · dsimp only
      split
      · exact ann_calm (request_calm h _ _) _
      · exact request_calm h _ _
  · exact h

theorem endAnnouncement_calm (h : Calm s t) : Calm s (endAnnouncement t) := by
  unfold endAnnouncement
  split
  · exact h
  · dsimp only
    refine ann_calm (stopNote_calm ?_ _ _ _ _ _) _
    split
    · split
      · exact putStopState_calm h _ _ _
      · exact h
    · exact h

theorem startAnnouncement_calm (h : Calm s t) (i : StopIx) (r : Stop) :
    Calm s (startAnnouncement i r t) := by
  have hd := stopNote_calm (cueStart?_calm (forAll_calm (fun p _ hu => joinAnnouncement_calm hu i r p)
    allProgs (putStopState_calm (ann_calm h { Announcement.idle with stop := some i }) i
      .announcing none)) .stop r.cue) i .inProgress
  unfold startAnnouncement
  dsimp only
  split
  · exact endAnnouncement_calm (hd _ _ _)
  · exact hd _ _ _

theorem tryStart_calm (h : Calm s t) (i : StopIx) : Calm s (tryStart i t) := by
  unfold tryStart
  split
  · exact h
  · split
    · exact startAnnouncement_calm h _ _
    · exact h

theorem startTest_calm (h : Calm s t) : Calm s (startTest t) :=
  forAll_calm (fun i _ hu => tryStart_calm hu i) _ h

theorem settleAnnouncement_calm (h : Calm s t) : Calm s (settleAnnouncement t) := by
  unfold settleAnnouncement
  split
  · exact startTest_calm (endAnnouncement_calm h)
  · exact h

theorem dropAnnouncement_calm (h : Calm s t) (r : SkipReason) : Calm s (dropAnnouncement r t) := by
  unfold dropAnnouncement
  split
  · exact h
  · dsimp only
    refine ann_calm (stopNote_calm ?_ _ _ _ _ _) _
    split
    · split
      · exact putStopState_calm h _ _ _
      · exact h
    · exact h

theorem setLatch_calm (h : Calm s t) (i : StopIx) : Calm s (setLatch i t) := by
  unfold setLatch
  split
  · exact h
  · split
    · exact h
    · exact startTest_calm (dueTest_calm (stopNote_calm (setStop_calm h _ _) _ _ _ _ _) _)

/-! ## Advances, route resets, the store -/

theorem cancelStaged_calm (h : Calm s t) (p : Prog) : Calm s (cancelStaged p t) := by
  unfold cancelStaged
  split
  · split
    · exact miss_calm
        (withdrawChan_calm (mapProg_calm h _ _) _ _) _ _ _
    · exact h
  · exact h

theorem dropQueued_calm (h : Calm s t) (p : Prog) (r : MissReason) (g : Segment) :
    Calm s (dropQueued p r g t) :=
  miss_calm (mapProg_calm h _ _) _ _ _

theorem playerAdvance_calm (h : Calm s t) (p : Prog) : Calm s (playerAdvance p t) := by
  unfold playerAdvance
  exact act_calm (mapProg_calm (forAll_calm (fun g _ hu => dropQueued_calm hu p .passed g) _
    (cancelStaged_calm h p)) _ _) _

theorem groupAdvance_calm (h : Calm s t) (slot : GroupSlot) : Calm s (groupAdvance slot t) := by
  unfold groupAdvance
  split
  · exact h
  · split
    · exact h
    · split
      · split
        · exact release_calm h _ _
        · exact dissolveAndAct_calm h _ _ _
      · split
        · exact armGroup_calm h _
        · exact h

theorem stopsAdvance_calm (h : Calm s t) : Calm s (stopsAdvance t) := by
  unfold stopsAdvance
  refine startTest_calm (forAll_calm (fun i u hu => ?_) _ h)
  split
  · exact hu
  · split
    · exact passTest_calm hu _
    · exact dueTest_calm hu _

/-- An advance of the odometer, once the route clock's record has changed, is calm. -/
theorem handAdvance_calm (h : Calm s t) : Calm s (handAdvance t) :=
  stopsAdvance_calm (forAll_calm (fun g _ hu => groupAdvance_calm hu g) _
    (forAll_calm (fun p _ hu => playerAdvance_calm hu p) _ h))

theorem dropStaged_calm (h : Calm s t) (p : Prog) (r : MissReason) : Calm s (dropStaged p r t) := by
  unfold dropStaged
  split
  · exact miss_calm
      (withdrawChan_calm (mapProg_calm h _ _) _ _) _ _ _
  · exact h

theorem dropQueue_calm (h : Calm s t) (p : Prog) (r : MissReason) : Calm s (dropQueue p r t) :=
  forAll_calm (fun g _ hu => dropQueued_calm hu p r g) _ h

theorem playerRouteReset_calm (h : Calm s t) (p : Prog) : Calm s (playerRouteReset p t) := by
  unfold playerRouteReset
  exact dropQueue_calm (missAll_calm
    (mapProg_calm (dropStaged_calm h _ _) _ _) _ _ _) _ _

theorem clearGroups_calm (h : Calm s t) : Calm s (clearGroups t) := groups_calm h _

theorem resetStops_calm (h : Calm s t) (n : Nat) : Calm s (resetStops n t) :=
  forAll_calm (fun i _ hu => setStop_calm hu i _) _ h

theorem stopsRouteReset_calm (h : Calm s t) : Calm s (stopsRouteReset t) :=
  startTest_calm (forAll_calm (fun i _ hu => dueTest_calm hu i) _ (resetStops_calm h _))

/-- A route reset handed to the readers, once the route clock's record has changed, is calm. -/
theorem handRouteReset_calm (h : Calm s t) : Calm s (handRouteReset t) :=
  stopsRouteReset_calm (clearGroups_calm (forAll_calm (fun p _ hu => playerRouteReset_calm hu p) _ h))

theorem handStoreReady_calm (h : Calm s t) : Calm s (handStoreReady t) :=
  startTest_calm (forAll_calm (fun p _ hu => act_calm hu p) _ h)

theorem failStack_calm (h : Calm s t) (p : Prog) : Calm s (failStack p t) := by
  unfold failStack
  refine forAll_calm (fun e u hu => ?_) _
    (mapProg_calm h _ _)
  cases e with
  | segment g => exact miss_calm hu _ _ _
  | stop i => exact reportCut_calm hu _ _
  | guide => exact hu

theorem playerStoreFailed_calm (h : Calm s t) (p : Prog) : Calm s (playerStoreFailed p t) := by
  have ha : Calm s (t.mapProg p fun x => { x with active := none }) :=
    mapProg_calm h _ _
  unfold playerStoreFailed
  dsimp only
  split
  · exact nextChoice_calm (failStack_calm (dropStaged_calm (miss_calm ha _ _ _) _ _) _) _ _
  · exact nextChoice_calm (failStack_calm (dropStaged_calm (reportCut_calm ha _ _) _ _) _) _ _
  · exact failStack_calm (dropStaged_calm h _ _) _
  · exact failStack_calm (dropStaged_calm h _ _) _
  · exact failStack_calm (dropStaged_calm h _ _) _

end Sys2Proof.Machine
end

