-- ==== Sys2Proof/Laws/Clips.lean ====
section
/-! SUPPORT. The clip directory: reading after a write, and its canonical form kept. -/

namespace Sys2Proof.Machine

theorem Directory.find_put_same (d : Directory) (n : Nat) (c : Clip) : (d.put n c).find n = some c := by
  induction d with
  | nil => simp [put, find]
  | cons e rest ih =>
    obtain ⟨k, x⟩ := e
    simp only [put]
    split
    · simp [find]
    · split
      · simp [find]
      · rename_i h1 h2
        have : k ≠ n := fun h => h2 h.symm
        simp [find, this, ih]

theorem Directory.find_put_other (d : Directory) {n m : Nat} (c : Clip) (h : m ≠ n) :
    (d.put n c).find m = d.find m := by
  induction d with
  | nil => simp [put, find, Ne.symm h]
  | cons e rest ih =>
    obtain ⟨k, x⟩ := e
    simp only [put]
    split
    · simp [find, Ne.symm h]
    · split
      · rename_i h2
        subst h2
        simp [find, Ne.symm h]
      · simp only [find, ih]

theorem Directory.find_erase_same (d : Directory) (n : Nat) : (d.erase n).find n = none := by
  induction d with
  | nil => rfl
  | cons e rest ih =>
    obtain ⟨k, x⟩ := e
    unfold erase at ih ⊢
    by_cases h : k = n
    · simpa [h] using ih
    · simpa [h, find] using ih

theorem Directory.find_erase_other (d : Directory) {n m : Nat} (h : m ≠ n) :
    (d.erase n).find m = d.find m := by
  induction d with
  | nil => rfl
  | cons e rest ih =>
    obtain ⟨k, x⟩ := e
    unfold erase at ih ⊢
    by_cases e : k = n
    · subst e
      simpa [find, Ne.symm h] using ih
    · simp only [ne_eq, decide_not] at ih
      simp [e, find, ih]

theorem Directory.put_keys (d : Directory) (n : Nat) (c : Clip) {m : Nat}
    (h : m ∈ (d.put n c).map Prod.fst) : m = n ∨ m ∈ d.map Prod.fst := by
  induction d with
  | nil => simp_all [put]
  | cons e rest ih =>
    obtain ⟨k, x⟩ := e
    simp only [put] at h
    split at h
    · simpa using h
    · split at h
      · simp at h ⊢
        rcases h with h | h
        · exact .inl h
        · exact .inr (.inr h)
      · simp only [List.map_cons, List.mem_cons] at h ⊢
        rcases h with h | h
        · exact .inr (.inl h)
        · rcases ih h with h | h
          · exact .inl h
          · exact .inr (.inr h)

theorem Directory.put_wf {d : Directory} (h : d.wf = true) (n : Nat) (c : Clip) :
    (d.put n c).wf = true := by
  unfold wf at *
  simp only [decide_eq_true_eq] at *
  induction d with
  | nil => simp [put]
  | cons e rest ih =>
    obtain ⟨k, x⟩ := e
    simp only [List.map_cons, List.pairwise_cons] at h
    simp only [put]
    split
    · rename_i lt
      simp only [List.map_cons, List.pairwise_cons, List.mem_cons, forall_eq_or_imp]
      exact ⟨⟨lt, fun a ha => lt.trans (h.1 a ha)⟩, h.1, h.2⟩
    · split
      · rename_i eq
        subst eq
        simpa using h
      · simp only [List.map_cons, List.pairwise_cons]
        refine ⟨fun a ha => ?_, ih h.2⟩
        rcases put_keys rest n c ha with rfl | ha
        · omega
        · exact h.1 a ha

theorem Directory.erase_wf {d : Directory} (h : d.wf = true) (n : Nat) : (d.erase n).wf = true := by
  unfold wf erase at *
  simp only [decide_eq_true_eq] at *
  exact h.sublist (List.filter_sublist.map _)

end Sys2Proof.Machine
end

