-- ==== Sys2Proof/Tests/Slice0.lean ====
section
/-! SUPPORT. Tests of the model. `test_…` theorems check one step, or one frame, against a value the spec
states: its layouts, its tables or its examples, named in the docstrings. `witness_…` theorems show, for a
statement of Certificates/Slice0/Obligations.lean that has hypotheses, concrete states and operands that
meet them. -/

namespace Sys2Proof.Tests

open Sys2Proof Sys2Proof.Machine

/- The kernel evaluations below one after another: side by side they would each take a thread's stack. -/
set_option Elab.async false

/-! ## States for the tests -/

/-- Whether an outcome is a next state that passes a check. -/
def goesTo (o : Host.Outcome State Fault Refusal) (check : State → Bool) : Bool :=
  match o with
  | .next t => check t
  | _ => false

/-- Whether a command goes on to a state that passes a check. -/
def gives (c : Instr) (s : State) (check : State → Bool) : Bool := goesTo (exec c s) check

/-- Whether a command goes on and leaves the state as it is. -/
def leaves (c : Instr) (s : State) : Bool := gives c s fun t => decide (t = s)

/-- The result data of the last reply placed. -/
def State.lastAnswer (s : State) : Option Answer := s.link.replies.getLast?.map Reply.answer

/-- The part in RUN with a store of 20,000 blocks, five clips and programmes P0 and P1 enabled. -/
def running : State :=
  { State.reset with
    op := { state := .run, ign := true, ignOff := none, inactivity := none, settle := none,
            ampEn := true },
    setup := { Setup.defaults with storeBlocks := 20000 },
    clips := [(1, ⟨.speech, 0, 100, [30]⟩), (2, ⟨.chime, 100, 25, []⟩), (3, ⟨.bed, 125, 3, [1]⟩),
              (4, ⟨.speech, 128, 150, [40, 80]⟩), (5, ⟨.speech, 278, 1, []⟩)],
    progs := State.reset.progs.write 1 (.reset true) }

/-- The running part with the route clock TRACKING at an odometer and estimate, in mm. -/
def tracking (odo est speed rem : Nat) : State :=
  { running with route := { RouteClock.reset with
      odo := odo, est := est, speed := speed, rem := rem, state := .tracking, stale := some 5000,
      age := some 3 } }

/-- A segment of the clip 4, QUEUED. -/
def seg (id trigger : Nat) : Segment :=
  { id := id, main := 4, short := none, trigger := some trigger, cancel := none, group := none,
    fit := false, cue := none, arrival := 0, state := .queued, chosen := none, held := none,
    resume := 0, since := none, cueRun := false }

/-- The form that queues such a segment on P1. -/
def form (id trigger : Nat) : SegmentForm :=
  { id := id, prog := 1, flags := 0, main := 4, short := none, trigger := some trigger,
    cancel := none, group := none, cue := none }

/-- The segment 701 as P1's active item at a position. -/
def active (pos : Nat) : Item :=
  .segment { seg 701 0 with state := .active, chosen := some .main, cueRun := true } 5 pos

/-- The running part with segment 701 PLAYING on P1 and its next block in F1. -/
def playing (pos : Nat) : State :=
  { running with
    progs := running.progs.write 1 { Programme.reset true with
      player := .playing, active := some (active pos) },
    chans := running.chans.write 1 { Channel.reset with
      state := .run, counter := 5, current := some 5, clip := some 4, next := pos + 1,
      remaining := 149 - pos, fifo := [⟨5, pos, silentBlock⟩] } }

/-- The running part with a read of F1 in flight for P1's segment, after a number of faults. -/
def reading (faults : Nat) : State :=
  let s := playing 0
  { s with
    chans := s.chans.write 1 { s.chan 1 with inFlight := some ⟨5, 4, 1, 129⟩ },
    store := { s.store with monitor := some 5, faults := faults } }

/-- A group that declares P0 and P1, with its trigger at 30,000 dm. -/
def group12 : Group :=
  { id := 12, state := .forming, declared := 3, enrolled := 0, ready := 0, trigger := 30000,
    cancel := some 30800, hold := 40, timer := none, cue := none, started := 0, detached := 0,
    order := 0 }

/-- The stop 8 of Example 6-1, with the clips of these tests. -/
def stop8 : Stop :=
  { id := 42, announce := 20000, arrival := 20400, requestOnly := false, chime := some 2,
    clips := [(0, 1)], cue := none, latch := false, state := .pending, skip := none }

/-- The running part with stop 8 loaded at its index and the odometer at a point, in mm. -/
def withStop8 (x : Stop) (odo : Nat) : State :=
  let s := tracking odo odo 0 0
  { s with stops := s.stops.write 8 (some x) }

/-- A reply that waits. -/
def waitingReply : Reply := ⟨0x02, 1, .ack .empty, .nothing⟩

/-- A state with some requests and some replies waiting. -/
def queued (requests : List Frame) (replies : Nat) (s : State) : State :=
  { s with link := { s.link with
      requests := requests, replies := List.replicate replies waitingReply } }

/-- A state with bytes in its receive FIFO. -/
def received (entries : List RxEntry) (s : State) : State :=
  { s with link := { s.link with rxFifo := entries } }

/-! ## Which commands could reach the part -/

/-- Every range that Chapter 12 gives the bytes of a request refuses a value past it. -/
theorem test_ill_formed_requests :
    [Instr.setup 0 (List.replicate 41 (1, 0)), .setup 0 [(256, 0)], .setup 0 [(1, 2147483648)],
      .setup 0 [(1, -2147483649)], .linkRate 0 256, .setState 0 256, .position 0 4294967296 0 0,
      .position 0 0 65536 0, .position 0 0 0 65536, .routeReset 0 4294967296,
      .defineClip 0 65536 0 0 0 0 [], .defineClip 0 0 256 0 0 0 [], .defineClip 0 0 0 256 0 0 [],
      .defineClip 0 0 0 0 65536 0 [], .defineClip 0 0 0 0 0 65536 [],
      .defineClip 0 0 0 0 0 0 (List.replicate 9 0), .defineClip 0 0 0 0 0 0 [65536],
      .deleteClip 0 65536, .getClip 0 65536, .programmeSet 0 256 0 0 0 0,
      .programmeSet 0 0 256 0 0 0, .programmeSet 0 0 0 256 0 0, .programmeSet 0 0 0 0 128 0,
      .programmeSet 0 0 0 0 (-129) 0, .programmeSet 0 0 0 0 0 256, .getProgramme 0 256].all
      (fun i => !i.wellFormed) ∧
    [Instr.cancelSegment 0 65536, .closeGroup 0 256, .getGroup 0 256, .guideOn 0 65536,
      .guideOff 0 65536, .getStop 0 256, .bedStart 0 65536 0, .bedStart 0 0 (-129),
      .bedLevel 0 128, .speakerSet 0 256 0 0 0 0, .speakerSet 0 0 256 0 0 0,
      .speakerSet 0 0 0 256 0 0, .speakerSet 0 0 0 0 (-129) 0, .speakerSet 0 0 0 0 0 256,
      .nodeSet 0 256 0 0, .nodeSet 0 0 256 0, .nodeSet 0 0 0 256, .jackSet 0 256 0 0,
      .jackSet 0 0 256 0, .jackSet 0 0 0 256, .getJack 0 256, .zones 0 256 0 0 0,
      .zones 0 0 256 0 0, .zones 0 0 0 256 0, .zones 0 0 0 0 65536, .zoneSet 0 256 0 0,
      .zoneSet 0 0 256 0, .zoneSet 0 0 0 256, .defineCue 0 256 0 [], .defineCue 0 0 256 [],
      .defineCue 0 0 0 (List.replicate 9 ⟨0, 0, 0, 0⟩), .defineCue 0 0 0 [⟨256, 0, 0, 0⟩],
      .defineCue 0 0 0 [⟨0, 256, 0, 0⟩], .defineCue 0 0 0 [⟨0, 0, 65536, 0⟩],
      .defineCue 0 0 0 [⟨0, 0, 0, 65536⟩], .runCue 0 256, .stopCue 0 256].all
      (fun i => !i.wellFormed) := by
  decide +kernel

/-- The same for the three requests whose fields stand in a form: an absent field has a reserved value, so
no present field has it (R178). -/
theorem test_ill_formed_forms :
    [{ form 1 0 with id := 65536 }, { form 1 0 with prog := 256 }, { form 1 0 with flags := 256 },
      { form 1 0 with main := 65536 }, { form 1 0 with short := some 65535 },
      { form 1 0 with trigger := some 4294967295 }, { form 1 0 with cancel := some 4294967295 },
      { form 1 0 with group := some 0 }, { form 1 0 with group := some 256 },
      { form 1 0 with cue := some 255 }].all (fun f => !(Instr.queueSegment 0 f).wellFormed) ∧
    [(⟨256, none, 0, 0, 0, none⟩ : GroupForm), ⟨0, some 255, 0, 0, 0, none⟩,
      ⟨0, none, 65536, 0, 0, none⟩, ⟨0, none, 0, 65536, 0, none⟩, ⟨0, none, 0, 0, 4294967296, none⟩,
      ⟨0, none, 0, 0, 0, some 4294967295⟩].all (fun f => !(Instr.openGroup 0 f).wellFormed) ∧
    [(⟨256, 0, 0, none, 0, 0, none, []⟩ : StopForm), ⟨0, 256, 0, none, 0, 0, none, []⟩,
      ⟨0, 0, 256, none, 0, 0, none, []⟩, ⟨0, 0, 0, some 255, 0, 0, none, []⟩,
      ⟨0, 0, 0, none, 4294967296, 0, none, []⟩, ⟨0, 0, 0, none, 0, 4294967296, none, []⟩,
      ⟨0, 0, 0, none, 0, 0, some 65535, []⟩, ⟨0, 0, 0, none, 0, 0, none, [(256, 0)]⟩,
      ⟨0, 0, 0, none, 0, 0, none, [(0, 65536)]⟩,
      ⟨0, 0, 0, none, 0, 0, none, List.replicate 13 (0, 0)⟩].all
      (fun f => !(Instr.loadStop 0 f).wellFormed) := by
  decide +kernel

/-- The data that an event brings has the size the spec gives it: 320 samples a block, a reading of at most
1,023. -/
theorem test_ill_formed_events :
    [Instr.readCompletion .inFlight (List.replicate 319 0), .mixerBlockPeriod [] silentBlock,
      .mixerBlockPeriod silentBlock [], .ambientSample 1024].all (fun i => !i.wellFormed) ∧
    [Instr.readCompletion .inFlight silentBlock, .mixerBlockPeriod silentBlock silentBlock,
      .ambientSample 1023].all Instr.wellFormed := by
  decide +kernel

/-! ## Frames -/

/-- Whether a frame and a well-formed request spell each other. -/
def spells (f : Frame) (i : Instr) : Bool :=
  i.wellFormed && decide (encodeRequest i = some f) &&
    match decodeRequest f with
    | .ok j => decide (j = i)
    | .error _ => false

/-- Frames written out from the layouts of 12.3, one or more of each family: two-byte and four-byte fields
least significant byte first, signed bytes in two's complement, reserved values for absent fields. -/
theorem test_frames_spell_requests :
    [((⟨0x01, 1, []⟩ : Frame), Instr.hello 1),
      (⟨0x03, 9, [7, 0xFF, 0xFF, 0xFF, 0xFF, 11, 0xE2, 0xFF, 0xFF, 0xFF]⟩,
        .setup 9 [(7, -1), (11, -30)]),
      (⟨0x05, 8, [3]⟩, .linkRate 8 3),
      (⟨0x10, 7, [0x3E, 0x30, 0, 0, 0xE8, 0x03, 120, 0]⟩, .position 7 12350 1000 120),
      (⟨0x11, 2, [0x40, 0x42, 0x0F, 0]⟩, .routeReset 2 1000000),
      (⟨0x18, 1, [40, 0, 0, 0, 0x88, 0x13, 120, 0, 30, 0, 64, 0, 100, 0]⟩,
        .defineClip 1 40 0 0 5000 120 [30, 64, 100]),
      (⟨0x19, 1, [0xFF, 0x03]⟩, .deleteClip 1 1023),
      (⟨0x20, 2, [2, 1, 9, 0xE8, 0]⟩, .programmeSet 2 2 1 9 (-24) 0),
      (⟨0x22, 3, [0xBD, 0x02, 2, 1, 31, 0, 0xFF, 0xFF, 0x84, 0x4E, 0, 0, 0xB0, 0x4F, 0, 0, 0, 0xFF]⟩,
        .queueSegment 3 ⟨701, 2, 1, 31, none, some 20100, some 20400, none, none⟩),
      (⟨0x28, 3, [12, 5, 0x49, 0, 40, 0, 0x30, 0x75, 0, 0, 0x50, 0x78, 0, 0]⟩,
        .openGroup 3 ⟨12, some 5, 0x49, 40, 30000, some 30800⟩)].all
      (fun x => spells x.1 x.2) ∧
    [((⟨0x30, 4, [0x10, 0]⟩ : Frame), Instr.guideOn 4 16),
      (⟨0x38, 5, [8, 42, 1, 3, 0x20, 0x4E, 0, 0, 0xB0, 0x4F, 0, 0, 5, 0, 0, 100, 0, 2, 102, 0]⟩,
        .loadStop 5 ⟨8, 42, 1, some 3, 20000, 20400, some 5, [(0, 100), (2, 102)]⟩),
      (⟨0x40, 5, [3, 0, 0xDC]⟩, .bedStart 5 3 (-36)),
      (⟨0x43, 6, [1, 2, 1, 0xF4, 1]⟩, .speakerSet 6 1 2 1 (-12) 1),
      (⟨0x48, 6, [15, 1, 1]⟩, .nodeSet 6 15 1 1),
      (⟨0x49, 7, [37, 4, 15]⟩, .jackSet 7 37 4 15),
      (⟨0x50, 8, [3, 0x81, 255, 0xF4, 1]⟩, .zones 8 3 0x81 255 500),
      (⟨0x52, 9, [4, 2, 0x0F, 200, 0xF4, 1, 0xE8, 3]⟩, .defineCue 9 4 2 [⟨15, 200, 500, 1000⟩]),
      (⟨0x54, 9, [1]⟩, .stopCue 9 1)].all (fun x => spells x.1 x.2) := by
  decide +kernel

/-- Whether the link refuses a frame with a code. -/
def refusedWith (f : Frame) (code : RefuseCode) : Bool :=
  match decodeRequest f with
  | .error c => decide (c = code)
  | .ok _ => false

/-- A kind that 12.4 does not list and a length that it does not allow are refused by name. -/
theorem test_frames_refused :
    refusedWith ⟨0x57, 1, []⟩ .badKind ∧ refusedWith ⟨0x08, 1, []⟩ .badKind ∧
    refusedWith ⟨0x07, 1, []⟩ .badLength ∧ refusedWith ⟨0x03, 1, [1, 0, 0, 0]⟩ .badLength ∧
    refusedWith ⟨0x18, 1, List.replicate 26 0⟩ .badLength := by
  decide +kernel

/-! ## The queue, the link and its requests -/

theorem witness_StepRunsTheFrontCommand :
    { running with pending := [.hello 1, .getRoute 2] }.pending = Instr.hello 1 :: [.getRoute 2] :=
  rfl

theorem witness_IdleStepPassesOneMillisecond : running.pending = [] := rfl

theorem witness_RequestFramesDecode :
    (Instr.linkRate 8 3).wellFormed = true ∧
      encodeRequest (.linkRate 8 3) = some ⟨0x05, 8, [3]⟩ := by
  decide +kernel

/-- A head request of each outcome, three replies waiting; a link that is not free in each way. -/
theorem witness_RequestsAreHandedOverInTurn :
    (queued [⟨0x02, 9, []⟩] 3 running).link.requests = ⟨0x02, 9, []⟩ :: [] ∧
    (queued [⟨0x02, 9, []⟩] 3 running).link.replies.length < 4 ∧
    (queued [⟨0x02, 9, []⟩] 3 running).link.restarting = false ∧
    kindListed 0x00 = false ∧ kindListed 0x57 = false ∧ kindListed 0x56 = true ∧
    lengthAllowed 0x07 0 = false ∧ lengthAllowed 0x07 1 = true ∧
    (Instr.getStatus 9).wellFormed = true ∧
    encodeRequest (.getStatus 9) = some ⟨0x02, 9, []⟩ ∧
    running.link.requests = [] ∧
    4 ≤ (queued [⟨0x02, 9, []⟩] 4 running).link.replies.length ∧
    (queued [⟨0x02, 9, []⟩] 0 running).link.requests ≠ [] := by
  decide +kernel

/-- Example 11-1: the fifth request waits while the reply queue is full, and the ninth is discarded. -/
theorem test_requests_wait_and_overrun :
    gives (.getStatus 5) (queued [] 4 running) (fun t =>
      decide (t.link.requests = [⟨0x02, 5, []⟩] ∧ t.link.replies.length = 4)) ∧
    gives (.getStatus 9) (queued (List.replicate 4 ⟨0x02, 5, []⟩) 4 running) (fun t =>
      decide (t.link.requests.length = 4 ∧ t.link.overrunErrors = 1 ∧
        t.link.notices = [.linkError .overrun 1 (some (0x02, 9))])) := by
  decide +kernel

theorem witness_EachRequestGetsOneReply :
    LinkFree running ∧ encodeRequest (.getRoute 2) = some ⟨0x12, 2, []⟩ :=
  ⟨⟨by decide +kernel, rfl, rfl⟩, by decide +kernel⟩

/-- A free link with three replies waiting, the most it may hold. -/
theorem witness_linkFree_boundary : LinkFree (queued [] 3 running) :=
  ⟨by decide +kernel, rfl, rfl⟩

theorem witness_ReadRequestsReport :
    LinkFree running ∧ (63 : Nat) < 64 ∧ running.stop 63 = none ∧
      (withStop8 stop8 0).stop 8 = some stop8 ∧ (11 : Nat) < 12 :=
  ⟨⟨by decide +kernel, rfl, rfl⟩, by decide +kernel⟩

/-- The part number and the payload limit that R176 states. -/
theorem test_hello_reports :
    gives (.hello 7) running (fun t => match State.lastAnswer t with
      | some (.ack (.hello v)) => decide (v.part = 1264 ∧ v.payload = 200 ∧ v.rate = 0)
      | _ => false) ∧
    gives (.getStop 7 8) (withStop8 stop8 0) (fun t => match State.lastAnswer t with
      | some (.ack (.stop v)) => decide (v.passDm = 20700 ∧ v.record = stop8)
      | _ => false) := by
  decide +kernel

theorem witness_RateAndRestartWaitForTheirReplies :
    LinkFree running ∧ (3 : Nat) < 4 ∧ running.link.rate ≤ 3 ∧ (3 : Nat) ≤ 3 ∧
      3 ≠ running.link.rate :=
  ⟨⟨by decide +kernel, rfl, rfl⟩, by decide +kernel⟩

/-- A changed rate waits for its ACK, whose end brings it with the receiver in HUNT and its FIFO empty
(R167). -/
theorem test_rate_changes_after_its_ack :
    gives (.linkRate 1 3) running (fun t => decide (t.link.rate = 0 ∧ t.link.pendingRate = some 3)) ∧
    gives .frameSendEnd { running with link := { running.link with
        pendingRate := some 3, rxFifo := [.byte 1], receiver := .inFrame [] 0,
        tx := some (.reply ⟨0x05, 1, .ack (.rateBefore 0), .rateChange⟩) } }
      (fun t => decide (t.link.rate = 3 ∧ t.link.pendingRate = none ∧ t.link.rxFifo = [] ∧
        t.link.receiver = .hunt ∧ t.link.tx = none)) := by
  decide +kernel

/-- One state for each clause of the receiver's statement: a full FIFO, an empty one, each entry in HUNT,
the three operating states, a length byte of 200 and of 201, a mark in a frame, and a gap timer. -/
theorem witness_ReceiverTakesEachEntry :
    running.link.rate ≤ 3 ∧ running.link.rxFifo = [] ∧ running.link.receiver = .hunt ∧
    RxEntry.mark ≠ .byte 0x5A ∧ RxEntry.byte 0x5B ≠ .byte 0x5A ∧
    (received [.byte 0x5A] running).link.rxFifo = [.byte 0x5A] ∧ running.op.state = .run ∧
    State.reset.op.state = .layover ∧
    { State.reset.op with state := .dormant }.state = OpState.dormant ∧
    { running.link with rxFifo := [.byte 200], receiver := .inFrame [] 0 }.rxFifo = [.byte 200] ∧
    { running.link with rxFifo := [.mark], receiver := .inFrame [0] 0 }.rxFifo = [.mark] ∧
    { running.link with gap := some 0, receiver := .inFrame [0] 0 }.gap = some 0 ∧
    running.link.gap = none := by
  decide +kernel

/-- A byte past the 256 of the receive FIFO leaves one mark; in a frame it reloads the gap timer with the
347.2 µs of 115,200 baud (R167, R169). -/
theorem test_byte_arrivals :
    gives (.byteArrival 7) (received (List.replicate 256 (.byte 0)) running) (fun t =>
      decide (t.link.rxFifo = List.replicate 256 (RxEntry.byte 0) ++ [.mark])) ∧
    gives (.byteArrival 7) { running with link := { running.link with receiver := .inFrame [] 0 } }
      (fun t => decide (t.link.rxFifo = [.byte 7] ∧ t.link.gap = some 3472)) := by
  decide +kernel

/-- A length byte of 201 abandons the frame, and 200 does not; a mark in a frame and the gap timer's expiry
abandon it (R168, R169). -/
theorem test_frames_are_abandoned :
    gives .receiverByte { running with link := { running.link with
        rxFifo := [.byte 201], receiver := .inFrame [] 0 } }
      (fun t => decide (t.link.receiver = .hunt ∧ t.link.lengthErrors = 1)) ∧
    gives .receiverByte { running with link := { running.link with
        rxFifo := [.byte 200], receiver := .inFrame [] 0 } }
      (fun t => decide (t.link.receiver = .inFrame [200] 200)) ∧
    gives .receiverByte { running with link := { running.link with
        rxFifo := [.mark], receiver := .inFrame [0] 0 } }
      (fun t => decide (t.link.receiver = .hunt ∧ t.link.overrunErrors = 1)) ∧
    gives .gapTimerExpiry { running with link := { running.link with
        gap := some 0, receiver := .inFrame [0] 0 } }
      (fun t => decide (t.link.receiver = .hunt ∧ t.link.gapErrors = 1)) := by
  decide +kernel

/-- A start byte wakes a dormant part to LAYOVER with cause WAKE (R163). -/
theorem test_start_byte_wakes :
    gives .receiverByte (received [.byte 0x5A]
        { State.reset with op := { State.reset.op with state := .dormant, inactivity := none } })
      (fun t => decide (t.op.state = .layover ∧ t.op.inactivity = some 1800000 ∧
        t.link.notices = [.opState .layover .wake])) := by
  decide +kernel

/-- HELLO with tag 7: 0x00, 0x01, 0x07 and 0xF8 sum to 0 modulo 256. The longest payload is allowed. -/
theorem witness_WholeFrameIsReceived :
    ([] : List Byte).length ≤ 200 ∧ (List.replicate 200 (0 : Byte)).length ≤ 200 ∧
    (received ([0x5A, 0x00, 0x01, 0x07, 0xF8].map .byte) running).link.receiver = .hunt ∧
    (received ([0x5A, 0x00, 0x01, 0x07, 0xF8].map .byte) running).op.state = .run ∧
    (received ([0x5A, 0x00, 0x01, 0x07, 0xF8].map .byte) running).link.rxFifo =
      ([(0x5A : Byte), BitVec.ofNat 8 ([] : List Byte).length, 0x01, 0x07] ++ [] ++ [0xF8]).map .byte ++
        [] := by
  decide +kernel

theorem test_hello_frame_is_received :
    goesTo (execTimes .receiverByte 5
        (received ([0x5A, 0x00, 0x01, 0x07, 0xF8].map .byte) running)) (fun t =>
      decide (t.link.requests = [⟨0x01, 0x07, []⟩] ∧ t.link.receiver = .hunt ∧ t.link.rxFifo = [])) ∧
    goesTo (execTimes .receiverByte 5
        (received ([0x5A, 0x00, 0x01, 0x07, 0xF9].map .byte) running)) (fun t =>
      decide (t.link.requests = [] ∧ t.link.checkErrors = 1)) := by
  decide +kernel

theorem witness_FramesAreSentRepliesFirst :
    { running.link with tx := some (.reply waitingReply) }.tx.isSome = true ∧
    running.link.tx = none ∧ (queued [] 1 running).link.replies = waitingReply :: [] ∧
    running.link.replies = [] ∧ { running.link with notices := [.paStuck] }.notices = .paStuck :: [] ∧
    running.link.notices = [] ∧ waitingReply.after = .nothing ∧
    (⟨0x05, 1, .ack (.rateBefore 0), .rateChange⟩ : Reply).after = .rateChange := by
  decide +kernel

/-- A reply goes before a notice, and a notice carries the lost flag away (R173, R174). -/
theorem test_sending :
    gives .frameSendBegin { queued [] 1 running with link := { running.link with
        replies := [waitingReply], notices := [.paStuck], lost := true } }
      (fun t => decide (t.link.tx = some (.reply waitingReply) ∧ t.link.lost = true)) ∧
    gives .frameSendBegin { running with link := { running.link with
        notices := [.paStuck], lost := true } }
      (fun t => decide (t.link.tx = some (.notice .paStuck true) ∧ t.link.lost = false ∧
        t.link.notices = [])) := by
  decide +kernel

theorem witness_RestartIsMade :
    { running.link with
      tx := some (.reply ⟨0x06, 1, .ack (.stateBefore .run), .restart⟩), restarting := true }.tx =
      some (.reply ⟨0x06, 1, .ack (.stateBefore .run), .restart⟩) ∧
    (⟨0x06, 1, .ack (.stateBefore .run), .restart⟩ : Reply).after = .restart := by
  decide +kernel

/-- A RESTART keeps the clips and the programme records and leaves LAYOVER (R164). -/
theorem test_restart_keeps_the_clips :
    gives .frameSendEnd { playing 3 with link := { running.link with
        tx := some (.reply ⟨0x06, 1, .ack (.stateBefore .run), .restart⟩), restarting := true } }
      (fun t => decide (t.clips = running.clips ∧ (t.prog 1).enabled = true ∧
        (t.prog 1).active = none ∧ t.op.state = .layover ∧ t.link.restarting = false)) := by
  decide +kernel

/-- Example 11-2 in small: a notice of the same kind and object is replaced in its place, and a full queue
loses a new one. -/
theorem witness_NoticesCoalesceOrAreLost :
    { running.link with notices := [.paStuck, .underrun 3 1, .lampFault] }.notices =
      [.paStuck] ++ .underrun 3 1 :: [.lampFault] ∧
    (Notice.underrun 3 2).code = (Notice.underrun 3 1).code ∧
    (Notice.underrun 3 2).object = (Notice.underrun 3 1).object ∧
    (∀ x ∈ [Notice.paStuck],
      ¬(x.code = (Notice.underrun 3 2).code ∧ x.object = (Notice.underrun 3 2).object)) ∧
    (∀ x ∈ running.link.notices,
      ¬(x.code = (Notice.underrun 3 2).code ∧ x.object = (Notice.underrun 3 2).object)) := by
  decide +kernel

theorem test_full_notice_queue_loses :
    (notify (.underrun 3 2) { running with link := { running.link with
      notices := List.replicate 24 .paStuck } }).link.lost = true ∧
    (notify (.underrun 3 2) { running with link := { running.link with
      notices := List.replicate 23 .paStuck } }).link.notices.length = 24 := by
  decide +kernel

/-! ## The route clock -/

theorem witness_PositionMovesTheRouteClock :
    LinkFree (tracking 1234500 1234500 900 0) ∧ (1000000 : Nat) < 1000001 ∧
      (1000000 : Nat) ≤ 1000000 ∧ (tracking 1236400 1236400 1000 0).route.state = .tracking ∧
      100 * 12360 + min 0 4000 * min 0 2000 / 100 ≤ (tracking 1236400 1236400 1000 0).route.odo :=
  ⟨⟨by decide +kernel, rfl, rfl⟩, by decide +kernel⟩

/-- Example 1-1: the report of 12,350 dm at 1,000 cm/s, 120 ms old. Example 1-3: a report behind the
odometer is HELD. Example 1-4: a report 267,600 mm ahead is a JUMP. -/
theorem test_examples_1_1_3_4 :
    gives (.position 1 12350 1000 120) (tracking 1234500 1234500 900 0) (fun t =>
      decide (t.route.est = 1236200 ∧ t.route.rem = 0 ∧ t.route.odo = 1236200 ∧
        t.route.speed = 1000 ∧ t.route.stale = some 5000 ∧ t.route.age = some 0 ∧
        State.lastAnswer t = some (.ack (.position .forward false 12362 12362)))) ∧
    gives (.position 1 12360 0 0) (tracking 1236400 1236400 1000 0) (fun t =>
      decide (t.route.est = 1236000 ∧ t.route.odo = 1236400 ∧ t.route.speed = 0 ∧
        State.lastAnswer t = some (.ack (.position .held false 12364 12360)))) ∧
    gives (.position 1 15000 800 500) (tracking 1236400 1236400 1000 0) (fun t =>
      decide (t.route.odo = 1504000 ∧ t.link.notices = [.jump 12364 15040] ∧
        State.lastAnswer t = some (.ack (.position .jump false 15040 15040)))) := by
  decide +kernel

theorem witness_RouteResetClearsTheRun :
    LinkFree running ∧ (1000000 : Nat) < 1000001 ∧ (1000000 : Nat) ≤ 1000000 ∧
      State.reset.op.state ≠ .run :=
  ⟨⟨by decide +kernel, rfl, rfl⟩, by decide +kernel⟩

/-- A route reset to 20,400 dm makes stop 8 PASSED, one to 20,399 dm makes it DUE outside RUN (R111). -/
theorem test_route_reset_passes_stops :
    gives (.routeReset 1 20400) { withStop8 stop8 0 with op := State.reset.op } (fun t =>
      decide (t.route.odo = 2040000 ∧ t.route.state = .unset ∧
        (t.stop 8).map Stop.state = some .passed)) ∧
    gives (.routeReset 1 20399) { withStop8 stop8 0 with op := State.reset.op } (fun t =>
      decide ((t.stop 8).map Stop.state = some .due)) := by
  decide +kernel

theorem witness_RoutePeriodsMoveTheClock :
    ¬(State.reset.op.state = .run ∧ State.reset.route.state = .tracking) ∧
    (tracking 1236400 1236200 300 0).op.state = .run ∧
    (tracking 1236400 1236200 300 0).route.state = .tracking ∧
    1236200 + (0 + 300) / 5 ≤ (tracking 1236400 1236200 300 0).route.odo ∧
    (tracking 1236400 1236200 300 0).route.stale.isSome = true := by
  decide +kernel

/-- Example 1-2, periods 1 and 2 with V = 1,003; Example 1-3, its fourth period; Example 1-6, the stale
timer's expiry. -/
theorem test_examples_1_2_3_6 :
    gives .extrapolationPeriod (tracking 1236200 1236200 1003 0) (fun t =>
      decide (t.route.est = 1236400 ∧ t.route.rem = 3)) ∧
    gives .extrapolationPeriod (tracking 1236400 1236400 1003 3) (fun t =>
      decide (t.route.est = 1236601 ∧ t.route.rem = 1)) ∧
    gives .extrapolationPeriod (tracking 1236400 1236380 300 0) (fun t =>
      decide (t.route.est = 1236440 ∧ t.route.odo = 1236440)) ∧
    gives .staleTimerExpiry (tracking 1236400 1236400 700 0) (fun t =>
      decide (t.route.state = .stale ∧ t.link.notices = [.routeState .stale 12364])) := by
  decide +kernel

theorem witness_ExtrapolationHasNoDrift :
    (tracking 1236200 1236200 1003 4).op.state = .run ∧
    (tracking 1236200 1236200 1003 4).route.state = .tracking ∧
    (tracking 1236200 1236200 1003 4).route.rem ≤ 4 ∧ (1 : Nat) ≤ 5 ∧
    (tracking 1236200 1236200 1003 4).route.est +
      ((tracking 1236200 1236200 1003 4).route.rem +
        5 * (tracking 1236200 1236200 1003 4).route.speed) / 5 ≤ 100000000 := by
  decide +kernel

theorem witness_OdometerNeverDecreases :
    (∃ t, exec .reportAgeTick running = .next t) ∧
      (∀ g i f, Instr.reportAgeTick ≠ .hardReset g i f) ∧
      (∀ tag start, Instr.reportAgeTick ≠ .routeReset tag start) ∧
      Instr.reportAgeTick ≠ .requestHandover ∧ Instr.reportAgeTick ≠ .frameSendEnd :=
  ⟨⟨_, rfl⟩, by simp⟩

/-! ## Clips, channels and the store -/

theorem witness_DefineClipWritesTheRecord : LinkFree running := ⟨by decide +kernel, rfl, rfl⟩

/-- Example 2-1: clip 40 is accepted as new; a last mark equal to the block count is refused (R19, R20). -/
theorem test_example_2_1 :
    gives (.defineClip 1 40 0 0 5000 120 [30, 64, 100]) running (fun t =>
      decide (t.clip 40 = some ⟨.speech, 5000, 120, [30, 64, 100]⟩ ∧
        State.lastAnswer t = some (.ack (.defined .new)))) ∧
    gives (.defineClip 1 40 0 0 5000 120 [30, 64, 120]) running (fun t =>
      decide (t.clip 40 = none ∧ State.lastAnswer t = some (.refuse .range))) := by
  decide +kernel

theorem witness_ClipsAreDeletedAndRead :
    LinkFree running ∧ { running with clips := running.clips.filter fun e => decide (e.1 ≠ 4) }.clips =
      running.clips.filter fun e => decide (e.1 ≠ 4) :=
  ⟨⟨by decide +kernel, rfl, rfl⟩, rfl⟩

/-- A clip that an active segment references is refused with IN_USE, and a free one is deleted (R21). -/
theorem test_delete_clip :
    gives (.deleteClip 1 4) (playing 0) (fun t =>
      decide (t.clip 4 ≠ none ∧ State.lastAnswer t = some (.refuse .inUse))) ∧
    gives (.deleteClip 1 1) (playing 0) (fun t =>
      decide (t.clip 1 = none ∧ State.lastAnswer t = some (.ack .empty))) := by
  decide +kernel

theorem witness_ClipsInUseStay :
    (∃ t, exec .reportAgeTick (playing 0) = .next t) ∧
      (∀ g i f, Instr.reportAgeTick ≠ .hardReset g i f) ∧
      (playing 0).clip 4 = some ⟨.speech, 128, 150, [40, 80]⟩ ∧ 0 < (playing 0).uses 4 :=
  ⟨⟨_, rfl⟩, by simp, by decide +kernel⟩

/-- Example 2-3's four channels, with given occupancies of F2, F6, F9 and F12 and a last grant. -/
def arbiter (f2 f6 f9 f12 : Nat) (last : Chan) : State :=
  let chan := fun k : Nat => { Channel.reset with
    state := .run, current := some 1, clip := some 4, next := k, remaining := 100,
    fifo := List.replicate k ⟨1, 0, []⟩ }
  { running with
    chans := (((running.chans.write 2 (chan f2)).write 6 (chan f6)).write 9 (chan f9)).write 12
      (chan f12),
    store := { running.store with last := last } }

theorem witness_ArbiterGrantsInOrder :
    (∃ c, ((reading 0).chan c).inFlight ≠ none) ∧
    (∀ c, ¬((running.store.state = .ready ∧ (running.chan c).state = .run ∧
      (running.chan c).fifo.length ≤ 7 ∧ 0 < (running.chan c).remaining))) ∧
    (∀ d, ((arbiter 5 2 1 7 4).chan d).inFlight = none) ∧
    ((arbiter 5 2 1 7 4).chan 6).fifo.length ≤ 2 ∧
    (∀ d : Chan, (arbiter 5 2 1 7 4).store.state = .ready ∧
        ((arbiter 5 2 1 7 4).chan d).state = .run ∧ ((arbiter 5 2 1 7 4).chan d).fifo.length ≤ 7 ∧
        0 < ((arbiter 5 2 1 7 4).chan d).remaining →
      (((arbiter 5 2 1 7 4).chan d).fifo.length ≤ 2 ↔
        ((arbiter 5 2 1 7 4).chan 6).fifo.length ≤ 2) →
      (6 + 12 - (arbiter 5 2 1 7 4).store.last.val) % 13 ≤
        (d.val + 12 - (arbiter 5 2 1 7 4).store.last.val) % 13) ∧
    ((arbiter 5 2 1 7 4).chan 6).current = some 1 ∧ ((arbiter 5 2 1 7 4).chan 6).clip = some 4 := by
  decide +kernel

/-- Example 2-3: the grants in their order. -/
theorem test_example_2_3 :
    gives .storeGrant (arbiter 5 2 1 7 4) (fun t => decide (t.store.last = 6)) ∧
    gives .storeGrant (arbiter 5 3 1 7 6) (fun t => decide (t.store.last = 9)) ∧
    gives .storeGrant (arbiter 5 3 2 7 9) (fun t => decide (t.store.last = 9)) ∧
    gives .storeGrant (arbiter 5 3 3 7 9) (fun t => decide (t.store.last = 12)) ∧
    gives .storeGrant (arbiter 5 3 3 8 12) (fun t => decide (t.store.last = 2)) := by
  decide +kernel

theorem witness_ReadsLandOnTheirChannel :
    (∀ d, (running.chan d).inFlight = none) ∧ running.store.monitor = none ∧
    ((reading 1).chan 1).inFlight = some ⟨5, 4, 1, 129⟩ ∧
    (∀ d : Chan, d ≠ 1 → ((reading 1).chan d).inFlight = none) ∧
    (∀ p : Prog, p.val = (1 : Chan).val → ((reading 1).prog p).priming = none) ∧
    (reading 1).store.monitor.isSome = true ∧ (reading 1).store.faults ≤ 1 := by
  decide +kernel

/-- Example 2-2: the completion of the clip's last block chains to the staged clip 52 of 90 blocks, here
clip 4 of 150. -/
theorem test_example_2_2 :
    let s := reading 0
    gives (.readCompletion .inFlight silentBlock) { s with
        chans := s.chans.write 1 { s.chan 1 with remaining := 1, staged := some ⟨4, 0, 18⟩ } }
      (fun t => decide ((t.chan 1).current = some 18 ∧ (t.chan 1).next = 0 ∧
        (t.chan 1).remaining = 150 ∧ (t.chan 1).staged = none ∧ (t.chan 1).fifo.length = 2)) := by
  decide +kernel

theorem witness_StoreFailsAndReturns :
    ((reading 2).chan 1).inFlight = some ⟨5, 4, 1, 129⟩ ∧
    (∀ d : Chan, d ≠ 1 → ((reading 2).chan d).inFlight = none) ∧
    (reading 2).store.monitor.isSome = true ∧ 2 ≤ (reading 2).store.faults ∧
    running.store.state = .ready ∧
    { running.store with state := .failed, faults := 3 }.state = .failed ∧
    (∀ p, (running.prog p).queue = []) ∧
    (∀ i, ∀ x ∈ running.stop i, x.state ≠ .due) := by
  decide +kernel

/-- Example 2-5: the third expiry in a row fails the store, and P1's segment is missed with reason STORE;
STORE_RESUME reports FAILED. -/
theorem test_example_2_5 :
    gives .readMonitorExpiry (reading 1) (fun t =>
      decide (t.store.state = .ready ∧ t.store.faults = 2 ∧
        t.link.notices = [.storeFault 2 .ready 1 129])) ∧
    gives .readMonitorExpiry (reading 2) (fun t =>
      decide (t.store.state = .failed ∧ t.store.faults = 3 ∧ (t.prog 1).player = .idle ∧
        t.link.notices = [.storeFault 3 .failed 1 129, .segmentMissed 701 1 .store .active])) ∧
    gives (.storeResume 1) { running with store := { running.store with
        state := .failed, faults := 3 } }
      (fun t => decide (t.store.state = .ready ∧ t.store.faults = 0 ∧
        State.lastAnswer t = some (.ack (.storeBefore .failed)))) := by
  decide +kernel

/-! ## Programmes and preemption -/

/-- Each range, an enabled programme that keeps its state, the last one enabled, one disabled beside
another, and one enabled under the driver's PA. -/
theorem witness_ProgrammeSetWritesTheRecord :
    LinkFree running ∧ ((11 : Nat) < 12 ∧ (-25 : Int) < -24 ∧ (24 : Int) < 25 ∧ (1 : Nat) < 2) ∧
    ((-24 : Int) ≤ -24 ∧ (24 : Int) ≤ 24 ∧ (1 : Nat) = true.toNat) ∧
    (∀ q, q ≠ 0 → (State.reset.prog q).enabled = false) ∧
    ((1 : Prog) ≠ 0 ∧ (running.prog 1).enabled = true) ∧ (running.prog 0).enabled = true ∧
    (running.prog 2).enabled = false ∧ { running.voice with pa := .on }.pa = .on :=
  ⟨⟨by decide +kernel, rfl, rfl⟩, by decide +kernel⟩

/-- A programme's record is written; the only enabled programme is not disabled (LAST); one enabled under
PA becomes LIVE (R40, R41, Example 5-3 at 30 s). -/
theorem test_programme_set :
    gives (.programmeSet 1 1 1 9 (-24) 0) running (fun t =>
      decide ((t.prog 1).language = 9 ∧ (t.prog 1).trim = -24 ∧ (t.prog 1).bed = false)) ∧
    gives (.programmeSet 1 0 0 0 0 1) State.reset (fun t =>
      decide (State.lastAnswer t = some (.refuse .last) ∧ (t.prog 0).enabled = true)) ∧
    gives (.programmeSet 1 5 1 0 0 1) { running with voice := { running.voice with
        pa := .on, ptt := some 30000 } }
      (fun t => decide ((t.prog 5).player = .live ∧ (t.prog 5).active = some .driver)) := by
  decide +kernel

/-- A form for each clause: out of range, outside RUN, ahead of the odometer, reached, and a member of a
FORMING group. -/
theorem witness_QueuedSegmentsWaitOrStart :
    LinkFree running ∧
    ({ form 701 0 with id := 0 }.id = 0 ∧ (1023 : Nat) < { form 701 0 with main := 1024 }.main) ∧
    (form 701 20100).inRange = true ∧ State.reset.op.state ≠ .run ∧
    (running.prog 2).enabled = false ∧ (form 701 20100).prog = (1 : Prog).val ∧
    running.op.state = .run ∧ (running.prog 1).enabled = true ∧ (running.prog 1).queue = [] ∧
    running.store.state = .ready ∧
    (running.clip 4 = some ⟨.speech, 128, 150, [40, 80]⟩ ∧ (form 701 20100).short = none) ∧
    (∀ r, ∀ g ∈ (running.prog r).segments, g.id ≠ 701) ∧
    (form 701 20100).group = none ∧ (form 701 20100).trigger = some 20100 ∧
    (∀ c ∈ ({ form 701 20100 with cancel := some 20400 }).cancel,
      20100 < c ∧ running.route.odo < 100 * c) ∧
    running.route.odo < 100 * 20100 ∧ 100 * 0 ≤ running.route.odo ∧
    (running.prog 1).player = .idle ∧
    ({ running with groups := running.groups.write 0 (some group12) }).group 0 = some group12 ∧
    group12.state = .forming ∧ group12.declared.getLsbD 1 = true ∧
    group12.enrolled.getLsbD 1 = false ∧ (∀ c ∈ group12.cancel, running.route.odo < 100 * c) :=
  ⟨⟨by decide +kernel, rfl, rfl⟩, by decide +kernel⟩

/-- Example 3-1: a segment with a lower trigger enters ahead; its ACK reports QUEUED at place 0. A segment
whose trigger is reached starts. -/
theorem test_example_3_1 :
    gives (.queueSegment 1 (form 703 20050)) { running with
        progs := running.progs.write 1 { running.prog 1 with queue := [seg 701 20100, seg 702 20100] } }
      (fun t => decide ((t.prog 1).queue.map Segment.id = [703, 701, 702] ∧
        State.lastAnswer t = some (.ack (.queued (some .queued) (some 0))))) ∧
    gives (.queueSegment 1 (form 703 20050)) { running with
        route := { running.route with odo := 2005000 } }
      (fun t => decide ((t.prog 1).player = .priming ∧ (t.chan 1).clip = some 4 ∧
        t.link.notices = [.segmentStarted 703 1 .main 0 false])) := by
  decide +kernel

/-- The segment 701 in each of the places a segment has. -/
theorem witness_CancelledSegmentsLeave :
    LinkFree (playing 0) ∧ (702 : Nat) ≠ 0 ∧
    (∀ p, ∀ g ∈ ((playing 0).prog p).segments, g.id ≠ 702) ∧
    (∀ r, r ≠ 1 → ∀ h ∈ ((playing 0).prog r).segments, h.id ≠ 701) ∧
    (((playing 0).prog 1).segments.filter fun h => decide (h.id = 701)).length = 1 ∧
    ((playing 0).prog 1).active = some (active 0) ∧
    ((Programme.mk true 0 0 true 0 .idle none none [] [seg 701 5] none .idle).segments.filter
      fun h => decide (h.id = 701)) = [seg 701 5] ∧ (seg 701 5).state = .queued :=
  ⟨⟨by decide +kernel, rfl, rfl⟩, by decide +kernel⟩

/-- An ACTIVE segment that is cancelled leaves its player IDLE (R48). -/
theorem test_cancel_active :
    gives (.cancelSegment 1 701) (playing 0) (fun t =>
      decide ((t.prog 1).player = .idle ∧ (t.prog 1).active = none ∧ (t.chan 1).fifo = [] ∧
        State.lastAnswer t = some (.ack (.cancelled .active)))) := by
  decide +kernel

/-- A state for each clause of the players' statement. -/
theorem witness_PlayersPlayTheirBlocks :
    running.ann.stop = none ∧ (running.prog 1).player = .idle ∧
    ({ running.prog 1 with player := .live, active := some .guide }).active = some Item.guide ∧
    ((playing 0).prog 1).player = .playing ∧ ((playing 0).prog 1).active = some (active 0) ∧
    ((playing 0).chan 1).fifo = ⟨5, 0, silentBlock⟩ :: [] ∧ 0 + 1 < (playing 0).clipBlocks 4 ∧
    (((playing 0).chan 1).fifo.filter fun b => decide (b.tag = 5)).length <
      min 2 ((playing 0).clipBlocks 4 - 0) ∧
    (playing 149).clipBlocks 4 = 149 + 1 ∧ (seg 701 0).group = none ∧
    ((playing 149).prog 1).staged = none ∧ ((playing 149).prog 1).stack = [] ∧
    ((playing 149).prog 1).queue = [] := by
  decide +kernel

/-- A block period takes a block and moves the position; the last block ends the segment; an empty FIFO is
an underrun (R50, R55, R36). -/
theorem test_player_block_periods :
    gives (.playerBlockPeriod 1) (playing 3) (fun t =>
      decide ((t.prog 1).active = some (active 4) ∧ (t.chan 1).fifo = [])) ∧
    gives (.playerBlockPeriod 1) (playing 149) (fun t =>
      decide ((t.prog 1).player = .idle ∧ t.link.notices = [.segmentDone 701 1])) ∧
    gives (.playerBlockPeriod 1) { playing 3 with chans := running.chans } (fun t =>
      decide ((t.prog 1).underruns = 1 ∧ t.link.notices = [.underrun 1 1])) := by
  decide +kernel

/-- An ordered stack, a disabled programme, a FAILED store, a level taken, one above and one below. -/
theorem witness_PreemptionKeepsTheStackOrder :
    ({ Programme.reset true with
        player := .live, active := some .driver, stack := [.segment (seg 701 0)] }).level = 3 ∧
    StackOrdered { Programme.reset true with
      player := .live, active := some .driver, stack := [.segment (seg 701 0)] } ∧
    (running.prog 2).enabled = false ∧ (running.prog 1).enabled = true ∧
    { running.store with state := .failed }.state = .failed ∧ running.store.state = .ready ∧
    ((playing 0).prog 1).level = (active 0).level ∧
    ((playing 0).prog 1).level < Item.guide.level ∧ Item.guide.level < Item.driver.level :=
  ⟨by decide +kernel, ⟨by decide +kernel, by decide +kernel⟩, by decide +kernel⟩

/-- Example 2-4 in small: a guide preempts the segment at position 97 of a clip with marks 40 and 80, which
is suspended at the mark 80. -/
theorem test_preemption_suspends_at_a_mark :
    ((request 1 .guide (playing 97)).1.prog 1).stack.map
        (fun e => match e with | .segment g => g.resume | _ => 0) = [80] ∧
      ((request 1 .guide (playing 97)).1.prog 1).player = .live := by
  decide +kernel

/-! ## Live voice -/

/-- The running part with mic sense PRESENT and a guide mask. -/
def guided (mask : ProgMask) : State :=
  { running with
    voice := { running.voice with mic := true, guide := mask },
    progs := running.progs.write 1 { Programme.reset true with
      player := if mask = 0 then .idle else .live,
      active := if mask = 0 then none else some .guide } }

theorem witness_GuideItemsFollowTheMask :
    LinkFree running ∧ (4096 : Nat) ≤ 4096 ∧ (2 : ProgMask) ≠ 0 ∧ State.reset.op.state ≠ .run ∧
    running.op.state = .run ∧
    ¬(∀ p : Prog, (4 : ProgMask).getLsbD p.val = true → (running.prog p).enabled = true) ∧
    (∀ p : Prog, (2 : ProgMask).getLsbD p.val = true → (running.prog p).enabled = true) ∧
    running.voice.mic = false ∧ (guided 0).voice.mic = true ∧
    (2 : ProgMask) &&& (guided 2).voice.guide ≠ 0 ∧ (2 : ProgMask) &&& (guided 0).voice.guide = 0 ∧
    (∀ e ∈ ((guided 0).prog 1).stack, e ≠ .guide) ∧ ((guided 0).prog 1).level < 1 ∧
    (1 : Int) < Item.driver.level ∧ (guided 0).voice.guide = 0 ∧ (guided 2).voice.guide ≠ 0 :=
  ⟨⟨by decide +kernel, rfl, rfl⟩, by decide +kernel⟩

theorem witness_guided_stacks_ordered : ∀ p, StackOrdered ((guided 2).prog p) := by
  unfold StackOrdered
  decide +kernel

/-- Example 5-1 at 0 s and 9 s, and Example 5-2: GUIDE_ON puts P1 LIVE, a second one is DUPLICATE, and
without the microphone NO_MIC; the loss of the microphone ends the guide item with GUIDE_LOST. -/
theorem test_examples_5_1_5_2 :
    gives (.guideOn 1 2) (guided 0) (fun t =>
      decide (t.voice.guide = 2 ∧ (t.prog 1).player = .live ∧
        State.lastAnswer t = some (.ack (.guideOn 2 2)))) ∧
    gives (.guideOn 1 2) (guided 2) (fun t =>
      decide (State.lastAnswer t = some (.refuse .duplicate))) ∧
    gives (.guideOn 1 2) running (fun t => decide (State.lastAnswer t = some (.refuse .noMic))) ∧
    gives .gmicFallingEdge (guided 2) (fun t =>
      decide (t.voice.guide = 0 ∧ (t.prog 1).player = .idle ∧ t.link.notices = [.guideLost 2])) := by
  decide +kernel

theorem witness_DriverPaFollowsThePttLine :
    running.voice.pa = .off ∧ running.op.state = .run ∧ State.reset.op.state ≠ .run ∧
    { running.voice with pa := .stuck }.pa = .stuck ∧
    { running.voice with pa := .on, ptt := some 0 }.pa = .on ∧
    { running.voice with pa := .on, ptt := some 0 }.ptt.isSome = true ∧ running.voice.ptt = none := by
  decide +kernel

/-- Example 5-3: the press makes every enabled programme LIVE with 60 s to run, the timer leaves STUCK with
PA_STUCK, and the release ends STUCK without a notice. -/
theorem test_example_5_3 :
    gives .pttActiveEdge (playing 0) (fun t =>
      decide (t.voice.pa = .on ∧ t.voice.ptt = some 60000 ∧ (t.prog 0).active = some .driver ∧
        (t.prog 1).active = some .driver ∧ (t.prog 2).active = none ∧ t.link.notices = [])) ∧
    gives .pttTimerExpiry { running with voice := { running.voice with pa := .on, ptt := some 0 } }
      (fun t => decide (t.voice.pa = .stuck ∧ t.link.notices = [.paStuck])) ∧
    gives .pttInactiveEdge { running with voice := { running.voice with pa := .stuck } }
      (fun t => decide (t.voice.pa = .off ∧ t.link.notices = [])) := by
  decide +kernel

/-! ## Groups -/

/-- The form that opens such a group. -/
def opens12 : GroupForm := ⟨12, none, 3, 40, 30000, some 30800⟩

/-- Segment 901 as a WAITING member of group 12. -/
def member901 : Segment :=
  { seg 901 0 with trigger := none, group := some 12, state := .waiting, held := some .main }

/-- The running part with group 12 in slot 0 and segment 901 as its enrolled member on P1. -/
def grouped (g : Group) : State :=
  { running with
    groups := running.groups.write 0 (some { g with enrolled := 2 }),
    progs := running.progs.write 1 { running.prog 1 with queue := [member901], priming := some 7 } }

/-- Group 12 armed with its hold timer at 0 and P1 ready. -/
def armed12 : Group := { group12 with state := .armed, timer := some 0, ready := 2 }

theorem witness_GroupsOpenInTheirSlot :
    LinkFree running ∧ opens12.inRange = true ∧ State.reset.op.state ≠ .run ∧
    running.op.state = .run ∧
    (∀ p : Prog, opens12.declared.testBit p.val = true → (running.prog p).enabled = true) ∧
    ({ opens12 with declared := 4 }.declared.testBit 2 = true ∧ (running.prog 2).enabled = false) ∧
    (∀ c ∈ opens12.cancel, running.route.odo < 100 * c) ∧ running.group 0 = none ∧
    (∀ k : GroupSlot, k < 0 → running.group k ≠ none) ∧ (∀ k, ∀ g ∈ running.group k, g.id ≠ 12) ∧
    (grouped { group12 with state := .released }).group 0 ≠ none ∧
    running.route.odo < 100 * opens12.trigger ∧
    100 * { opens12 with trigger := 0 }.trigger ≤ running.route.odo ∧
    0 < opens12.hold ∧ { opens12 with hold := 0 }.hold = 0 ∧
    { opens12 with cancel := some 30000 }.cancel.getD 0 ≤ opens12.trigger :=
  ⟨⟨by decide +kernel, rfl, rfl⟩, by decide +kernel⟩

/-- Example 4-1: the group opens FORMING, and one whose trigger is behind arms with 4,000 ms. -/
theorem test_example_4_1 :
    gives (.openGroup 1 opens12) running (fun t =>
      decide (t.group 0 = some group12 ∧
        State.lastAnswer t = some (.ack (.opened .forming)))) ∧
    gives (.openGroup 1 opens12) { running with route := { running.route with odo := 3000200 } }
      (fun t => decide ((t.group 0).map (fun g => (g.state, g.timer)) = some (.armed, some 4000))) := by
  decide +kernel

theorem witness_GroupsAreReadAndClosed :
    LinkFree (grouped group12) ∧ (255 : Nat) < 256 ∧
    (∀ k, ∀ g ∈ (grouped group12).group k, g.id ≠ 255) ∧
    (∀ l, ∀ h ∈ (grouped group12).group l, h.id = 12 → l = 0) ∧
    (∀ g ∈ (grouped group12).group 0, g.id = 12 ∧ g.state ≠ .released ∧
      g.enrolled.getLsbD 0 = false ∧ g.enrolled.getLsbD 1 = true) ∧
    (grouped group12).group 0 ≠ none ∧
    (((grouped group12).prog 1).queue.filter fun h => decide (h.group = some 12)).length ≤ 1 :=
  ⟨⟨by decide +kernel, rfl, rfl⟩, by decide +kernel⟩

/-- CLOSE_GROUP empties the slot and cancels the member (R63). -/
theorem test_close_group :
    gives (.closeGroup 1 12) (grouped group12) (fun t =>
      decide (t.group 0 = none ∧ (t.prog 1).queue = [] ∧
        t.link.notices = [.segmentMissed 901 1 .cancelled .waiting] ∧
        State.lastAnswer t = some (.ack (.closed .forming 2)))) := by
  decide +kernel

theorem witness_HoldExpiryReleasesTheGroup :
    (∀ g ∈ (grouped group12).group 0, g.state ≠ .armed ∨ g.timer = none) ∧
    (grouped armed12).group 0 = some { armed12 with enrolled := 2 } ∧ armed12.state = .armed ∧
    armed12.timer.isSome = true ∧ armed12.ready.getLsbD 1 = true ∧
    ((grouped armed12).prog 1).queue = member901 :: [] ∧ member901.group = some armed12.id ∧
    ((grouped armed12).prog 1).priming = some 7 := by
  decide +kernel

/-- The hold timer's expiry starts the ready member and releases the group (R70 to R72). -/
theorem test_hold_expiry :
    gives (.holdTimerExpiry 0) (grouped armed12) (fun t =>
      decide ((t.group 0).map (fun g => (g.state, g.started, g.detached)) = some (.released, 2, 0) ∧
        (t.prog 1).player = .playing ∧
        t.link.notices = [.segmentStarted 901 1 .main 0 false,
          .groupReleased 12 .holdExpiry 3 2 0])) := by
  decide +kernel

/-! ## Stops -/

/-- The form that loads stop 8. -/
def loads8 : StopForm := ⟨8, 42, 0, none, 20000, 20400, some 2, [(0, 1)]⟩

theorem witness_LoadStopWritesTheRecord :
    LinkFree (withStop8 stop8 0) ∧ (63 : Nat) < { loads8 with index := 64 }.index ∧
    loads8.inRange = true ∧ { loads8 with arrival := 19999 }.arrival < loads8.announce ∧
    loads8.index = (8 : StopIx).val ∧ loads8.announce ≤ loads8.arrival ∧
    (∀ k, ∀ x ∈ (withStop8 stop8 0).stop k,
      (k < 8 → x.arrival < loads8.arrival) ∧ (8 < k → loads8.arrival < x.arrival)) ∧
    ((withStop8 stop8 0).clip 2).map Clip.kind = some .chime ∧
    ((withStop8 stop8 0).clip 1).map Clip.kind = some .speech ∧
    (∀ x ∈ (withStop8 stop8 0).stop 8, x.state = .pending ∧
      (withStop8 stop8 0).route.odo < 100 * x.announce ∧ (withStop8 stop8 0).ann.stop ≠ some 8) ∧
    (withStop8 stop8 0).route.odo < 100 * loads8.announce ∧
    (∀ k, ∀ x ∈ (withStop8 stop8 0).stop k, x.state ≠ .due) :=
  ⟨⟨by decide +kernel, rfl, rfl⟩, by decide +kernel⟩

/-- Stop 8 loads as NEW and then as REPLACED (R98); an announce point beyond the arrival is refused with
ORDER (R97). -/
theorem test_load_stop :
    gives (.loadStop 1 loads8) running (fun t =>
      decide (t.stop 8 = some stop8 ∧ State.lastAnswer t = some (.ack (.loaded .new .pending)))) ∧
    gives (.loadStop 1 loads8) (withStop8 stop8 0) (fun t =>
      decide (State.lastAnswer t = some (.ack (.loaded .replaced .pending)))) ∧
    gives (.loadStop 1 { loads8 with arrival := 19999 }) running (fun t =>
      decide (t.stop 8 = none ∧ State.lastAnswer t = some (.refuse .order))) := by
  decide +kernel

theorem witness_ClearStopsEmptiesTheTable :
    LinkFree (withStop8 stop8 0) ∧ (withStop8 stop8 0).ann.stop = none ∧
      { Announcement.idle with stop := some 8 }.stop ≠ none :=
  ⟨⟨by decide +kernel, rfl, rfl⟩, by decide +kernel⟩

theorem test_clear_stops :
    gives (.clearStops 1) (withStop8 stop8 0) (fun t =>
      decide (t.stop 8 = none ∧ State.lastAnswer t = some (.ack (.cleared 1)))) := by
  decide +kernel

/-- Stop 8 as a request-only stop. -/
def asked8 : Stop := { stop8 with requestOnly := true }

theorem witness_StopRequestsSetTheLatch :
    LinkFree (withStop8 asked8 0) ∧ State.reset.op.state ≠ .run ∧ (withStop8 asked8 0).op.state = .run ∧
    (∀ k, ∀ x ∈ (withStop8 { asked8 with state := .passed } 0).stop k,
      x.state = .arrived ∨ x.state = .passed ∨ x.state = .skipped) ∧
    (withStop8 asked8 0).stop 8 = some asked8 ∧ asked8.state = .pending ∧
    (∀ k, k < 8 → ∀ y ∈ (withStop8 asked8 0).stop k,
      y.state = .arrived ∨ y.state = .passed ∨ y.state = .skipped) ∧
    asked8.latch = false ∧ { asked8 with latch := true }.latch = true ∧
    (withStop8 asked8 1999999).route.odo < 100 * asked8.announce ∧
    (∀ k, ∀ y ∈ (withStop8 asked8 0).stop k, y.state ≠ .due) ∧
    100 * asked8.announce ≤ (withStop8 asked8 2000000).route.odo :=
  ⟨⟨by decide +kernel, rfl, rfl⟩, by decide +kernel⟩

/-- Before the announce point a request sets the latch with a notice; past it, as in Example 6-3, the
request makes the stop DUE, and its announcement starts on P0 (P1 takes the fallback's clip). -/
theorem test_example_6_3_request :
    gives .stopReqActiveEdge (withStop8 asked8 1999999) (fun t =>
      decide ((t.stop 8).map (fun x => (x.latch, x.state)) = some (true, .pending) ∧
        t.link.notices.length = 1)) ∧
    gives .stopReqActiveEdge (withStop8 asked8 2010000) (fun t =>
      decide ((t.stop 8).map (fun x => (x.latch, x.state)) = some (true, .announcing) ∧
        t.ann.participating = 3 ∧ (t.chan 0).clip = some 2 ∧
        (t.chan 1).staged.map Reload.clip = some 1)) := by
  decide +kernel

theorem witness_DoorMakesTheStopArrived :
    State.reset.op.state ≠ .run ∧
    (∀ k, ∀ x ∈ running.stop k, x.state = .passed ∨ x.state = .skipped) ∧
    (withStop8 stop8 1990000).op.state = .run ∧ (withStop8 stop8 1990000).stop 8 = some stop8 ∧
    stop8.state ≠ .passed ∧ stop8.state ≠ .skipped ∧
    (∀ k, k < 8 → ∀ y ∈ (withStop8 stop8 1990000).stop k, y.state = .passed ∨ y.state = .skipped) ∧
    (withStop8 stop8 1989999).route.odo + 50000 < 100 * stop8.arrival ∧
    100 * stop8.arrival ≤ (withStop8 stop8 1990000).route.odo + 50000 ∧
    (withStop8 stop8 1990000).setup.doorCue = none := by
  decide +kernel

/-- Example 6-1: the door window of stop 8 opens at 1,990,000 mm. -/
theorem test_example_6_1_door :
    leaves .doorOpeningEdge (withStop8 stop8 1989999) ∧
    gives .doorOpeningEdge (withStop8 stop8 1990000) (fun t =>
      decide ((t.stop 8).map Stop.state = some .arrived)) := by
  decide +kernel

/-! ## The mixer and the level unit -/

/-- The running part with the bed PLAYING at a gain, a block of it in F12, and P0 speaking a sample at a
level, its duck value and those of the feeds given. -/
def mixing (speech bed : Sample) (gain : Int) (level : Int) (duck : Nat) : State :=
  { running with
    chans := running.chans.write 12 { Channel.reset with
      state := .run, current := some 1, clip := some 3, remaining := 3,
      fifo := [⟨1, 0, List.replicate 320 bed⟩] },
    progs := running.progs.write 0 { Programme.reset true with
      player := .playing, voiced := ⟨.clip (List.replicate 320 speech), .playing, level⟩ },
    mixer := { running.mixer with
      bedState := .playing, bedClip := some 3, bedTag := some 1, bedGain := gain, lift := 12,
      ducks := running.mixer.ducks.write 0 duck, upperDuck := duck, lowerDuck := duck } }

theorem witness_BedAndFeedsAreSet :
    LinkFree running ∧ (1023 : Nat) < 1024 ∧ (-121 : Int) < -120 ∧ State.reset.op.state ≠ .run ∧
    running.clip 6 = none ∧ (running.clip 4).map Clip.kind = some .speech ∧
    (running.clip 3).map Clip.kind = some .bed ∧ { running.store with state := .failed }.state = .failed ∧
    running.mixer.bedState = .off ∧ (11 : Prog).val = 11 ∧
    ((2 : Nat), Filter.announce) ∈ [(0, Filter.all), (1, .guideUp), (2, .announce)] :=
  ⟨⟨by decide +kernel, rfl, rfl⟩, by decide +kernel⟩

/-- BED_START primes the bed from a BED clip and refuses a SPEECH clip (R117). -/
theorem test_bed_start :
    gives (.bedStart 1 3 (-24)) running (fun t =>
      decide (t.mixer.bedState = .priming ∧ t.mixer.bedClip = some 3 ∧ t.mixer.bedGain = -24 ∧
        (t.chan 12).clip = some 3)) ∧
    gives (.bedStart 1 4 (-24)) running (fun t =>
      decide (t.mixer.bedState = .off ∧ State.lastAnswer t = some (.refuse .range))) ∧
    gives (.speakerSet 1 1 11 2 (-120) 0) running (fun t =>
      decide (t.mixer.lower = ⟨11, .announce, -120, false⟩)) := by
  decide +kernel

theorem witness_MixerBuildsEachSample :
    running.mixer.bedState = .off ∧ (mixing 0 0 0 0 0).mixer.bedState = .playing ∧
    ((mixing 0 0 0 0 0).chan 12).fifo.length = 1 ∧ running.op.ampEn = true ∧
    running.op.settle = none ∧ State.reset.op.ampEn = false ∧ running.voice.pa ≠ .on ∧
    (319 : Nat) < 320 := by
  decide +kernel

/-- Example 7-1 at a duck value of 24: 20,000 over a bed of −12,000 gives 19,243. Example 7-2 at 24: 30,000
over 12,000 at gain −12 gives 31,511. -/
theorem test_examples_7_1_7_2 :
    gives (.mixerBlockPeriod silentBlock silentBlock) (mixing 20000 (-12000) (-24) 0 24) (fun t =>
      decide (((t.mixer.progOut.read 0).getD 0 0).toInt = 19243 ∧ t.mixer.ducks.read 0 = 24 ∧
        (t.chan 12).fifo = [])) ∧
    gives (.mixerBlockPeriod silentBlock silentBlock) (mixing 30000 12000 (-12) 0 24) (fun t =>
      decide (((t.mixer.progOut.read 0).getD 319 0).toInt = 31511)) := by
  decide +kernel

/-- Example 7-3: under a stop item's 20,000 the upper feed, lifted to gain 0 and without the bed, gives
19,999. The lower feed, at a duck value of 24, scales the 19,243 of Example 7-1 by lin(−12) = 16,423:
floor((19,243 × 16,423 + 16,384) / 32,768) = 9,644. A commentary segment does not pass the upper filter. -/
theorem test_example_7_3 :
    gives (.mixerBlockPeriod silentBlock silentBlock) (mixing 20000 (-12000) (-24) 2 24) (fun t =>
      decide ((t.mixer.spkUpper.getD 0 0).toInt = 19999 ∧
        (t.mixer.spkLower.getD 0 0).toInt = 9644)) ∧
    gives (.mixerBlockPeriod silentBlock silentBlock) (mixing 20000 (-12000) (-24) 0 24) (fun t =>
      decide ((t.mixer.spkUpper.getD 0 0).toInt = 0)) := by
  decide +kernel

/-- Example 7-1: the duck value rises by 6 in a block period with speech and falls by 1 without. -/
theorem test_duck_steps :
    gives (.mixerBlockPeriod silentBlock silentBlock) (mixing 0 0 0 0 0) (fun t =>
      decide (t.mixer.ducks.read 0 = 6)) ∧
    gives (.mixerBlockPeriod silentBlock silentBlock) { mixing 0 0 0 0 24 with
        progs := running.progs } (fun t => decide (t.mixer.ducks.read 0 = 23)) := by
  decide +kernel

/-- The products of Examples 7-1 and 7-2 and the values of lin they use. -/
theorem test_scaled_samples :
    lin (-24) = 8231 ∧ lin (-48) = 2068 ∧ lin (-12) = 16423 ∧ lin (-36) = 4125 ∧
    scale (-12000) 8231 = -3014 ∧ scale (-12000) 2068 = -757 ∧ scale 12000 16423 = 6014 ∧
    scale 12000 4125 = 1511 := by
  decide +kernel

theorem witness_LinIsTheRoundedPower :
    (1 : Nat) ≤ 1 ∧ (180 : Nat) ≤ 180 ∧ (-181 : Int) < -180 := by decide

/-- Example 7-4: node 5 UPPER and node 11 LOWER, J20 and J44 at step 9 on P2 with trim +4. -/
def lifting (lift : Nat) : State :=
  let s := tracking 0 0 2000 0
  { s with
    progs := s.progs.write 2 { Programme.reset true with trim := 4 },
    nodes := (s.nodes.write 5 ⟨true, .upper, .online, 0⟩).write 11 ⟨true, .lower, .online, 0⟩,
    jacks := (s.jacks.write 20 { JackRec.reset with state := .present, language := 2, volume := 9 }).write
      44 { JackRec.reset with state := .present, language := 2, volume := 9 },
    mixer := { s.mixer with lift := lift, codes := s.mixer.codes.write 44 (.level 32) } }

theorem witness_LiftMovesTowardItsTarget :
    (lifting 12).mixer.lift = min (lifting 12).setup.liftMax (2000 * (lifting 12).setup.liftSlope / 100) ∧
    (lifting 11).mixer.lift < 12 ∧ ((lifting 11).node (nodeOf 20)).deck = .upper ∧
    ((lifting 11).node (nodeOf 44)).deck = .lower := by
  decide +kernel

theorem test_example_7_4 :
    gives .liftTimerExpiry (lifting 5) (fun t =>
      decide (t.mixer.lift = 6 ∧ t.code 20 = .level 26 ∧ t.code 44 = .level 32 ∧
        ((t.jack 20).update.map Update.code) = some (.level 26))) ∧
    gives .liftTimerExpiry (lifting 11) (fun t =>
      decide (t.mixer.lift = 12 ∧ t.mixer.liftGoal = 12 ∧ t.code 20 = .level 20)) := by
  decide +kernel

/-! ## The seat loop -/

theorem witness_NodeSetDeclaresItsJacks :
    LinkFree running ∧ (15 : Nat) < 16 ∧ (1 : Nat) < 2 ∧ (15 : Nat) = (15 : Node).val ∧
      (1 : Nat) = true.toNat ∧ nodeOf 63 = 15 ∧ nodeOf 59 ≠ 15 :=
  ⟨⟨by decide +kernel, rfl, rfl⟩, by decide +kernel⟩

/-- A node declared anew is ONLINE, and its four jacks have pending updates (R132). -/
theorem test_node_set :
    gives (.nodeSet 1 15 1 1) running (fun t =>
      decide (t.node 15 = ⟨true, .upper, .online, 0⟩ ∧ (t.jack 60).update.isSome = true ∧
        (t.jack 63).update.isSome = true ∧ (t.jack 59).update = none)) := by
  decide +kernel

theorem witness_JacksAreSetAndRead :
    LinkFree running ∧ (63 : Nat) < 64 ∧ (running.prog 11).enabled = false ∧
    (63 : Nat) = (63 : Jack).val ∧ (1 : Nat) = (1 : Prog).val ∧ (running.prog 1).enabled = true :=
  ⟨⟨by decide +kernel, rfl, rfl⟩, by decide +kernel⟩

/-- JACK_SET writes language and step, and a disabled programme is refused (R144). -/
theorem test_jack_set :
    gives (.jackSet 1 63 1 15) running (fun t =>
      decide ((t.jack 63).language = 1 ∧ (t.jack 63).volume = 15 ∧ (t.jack 63).assigned = true)) ∧
    gives (.jackSet 1 63 2 15) running (fun t =>
      decide (State.lastAnswer t = some (.refuse .range))) := by
  decide +kernel

/-- Example 8-1: nodes 2 and 3 declared and ONLINE, J9 with an update for slot 4 and code 20, and the polls
outstanding given. -/
def looping (carriedBy : Option PollSlot) (polls : List Poll) : State :=
  { running with
    nodes := (running.nodes.write 2 ⟨true, .upper, .online, 0⟩).write 3 ⟨true, .upper, .online, 0⟩,
    jacks := running.jacks.write 9 { JackRec.reset with
      state := .present, language := 4, update := some ⟨4, .level 20, carriedBy⟩ },
    loop := { running.loop with polls := polls, round := 1, next := some 0 } }

/-- The poll to node 2 in slot A. -/
def pollA : Poll := ⟨.a, 2, 4, false, [2, 1, 1, 4, 20, 0xE4]⟩

theorem witness_PollsAreSentInRounds :
    { State.reset.op with state := .dormant }.state = .dormant ∧ running.loop.next = none ∧
    (∀ n : Node, 4 ≤ n.val → ¬(((looping none []).node n).declared = true)) ∧
    (looping none []).op.state ≠ .dormant ∧ (looping none []).loop.next = some 0 ∧
    0 ≤ (2 : Node).val ∧
    (((looping none []).node 2).declared = true ∧ ((looping none []).node 2).state = .online) ∧
    (∀ m : Node, 0 ≤ m.val → m < 2 → ¬(((looping none []).node m).declared = true)) ∧
    (∀ p ∈ (looping none []).loop.polls, p.slot ≠ .a) ∧
    (∀ p ∈ (looping (some .a) [pollA]).loop.polls, p.slot ≠ .b) ∧
    (∃ p ∈ (looping (some .a) [pollA]).loop.polls, p.slot = .a) := by
  decide +kernel

/-- Example 8-1, first event, with the bytes of 12.5: node 2, one update, position 1, slot 4, code 20. -/
theorem test_poll_message :
    gives .pollSend (looping none []) (fun t =>
      decide (t.loop.polls = [pollA] ∧
        (t.jack 9).update = some ⟨4, .level 20, some .a⟩)) := by
  decide +kernel

theorem witness_PollsEndByReplyOrTimeout :
    parseReply [2, 3, 0, 0xFB] = none ∧
    (parseReply [2, 0, 0, 0xFE]).map (·.node) = some 2 ∧
    (parseReply [3, 0, 0, 0xFD]).map (·.node) = some 3 ∧
    (looping (some .a) [pollA]).op.state ≠ .dormant ∧
    (looping (some .a) [pollA]).loop.polls = [] ++ pollA :: [] ∧ pollA.node = 2 ∧
    pollA.detached = false ∧ { pollA with detached := true }.detached = true ∧
    ((looping (some .a) [pollA]).node 2).declared = true ∧
    ((looping (some .a) [pollA]).node 2).misses ≤ 1 ∧ pollA.slot = .a ∧
    2 ≤ (NodeRec.mk true .upper .online 2).misses ∧ running.op.state ≠ .layover ∧
    State.reset.op.state = .layover ∧ State.reset.loop.roundTimer.isSome = true := by
  decide +kernel

/-- Example 8-1: the expiry of A's timer counts a miss and gives the update back; a matched reply to a poll
that carries it confirms it. The third miss takes the node OFFLINE with NODE_LOST. -/
theorem test_example_8_1 :
    gives (.responseTimerExpiry .a) (looping (some .a) [pollA]) (fun t =>
      decide (t.loop.polls = [] ∧ (t.node 2).misses = 1 ∧
        (t.jack 9).update = some ⟨4, .level 20, none⟩)) ∧
    gives (.seatReply [2, 0, 0, 0xFE]) (looping (some .a) [pollA]) (fun t =>
      decide (t.loop.polls = [] ∧ (t.node 2).misses = 0 ∧
        (t.jack 9).confirmed = some (4, .level 20))) ∧
    gives (.responseTimerExpiry .a) { looping (some .a) [pollA] with
        nodes := running.nodes.write 2 ⟨true, .upper, .online, 2⟩ }
      (fun t => decide (t.node 2 = ⟨true, .upper, .offline, 3⟩ ∧ (t.jack 9).state = .unknown ∧
        t.link.notices = [.nodeLost 2])) := by
  decide +kernel

/-- Example 8-2 at the second reply: J24 had been ABSENT for 200 s and reports HEADSET again, with a
LANG_NEXT event. -/
def boarding : State :=
  { running with
    now := 200000,
    setup := { running.setup with langUpper := 1 },
    progs := running.progs.write 3 { Programme.reset true with trim := -4 },
    nodes := running.nodes.write 6 ⟨true, .upper, .online, 0⟩,
    jacks := running.jacks.write 24 { JackRec.reset with
      state := .absent, sense := some .headset, volume := 13, assigned := true, absentAt := some 0 },
    mixer := { running.mixer with lift := 12 },
    loop := { running.loop with polls := [⟨.a, 6, 4, false, [6, 0, 0xFA]⟩], round := 1,
                                next := some 7 } }

theorem test_example_8_2 :
    gives (.seatReply [6, 1, 1, 0, 0xF8]) boarding (fun t =>
      decide ((t.jack 24).state = .present ∧ (t.jack 24).language = 3 ∧ (t.jack 24).volume = 8 ∧
        (t.jack 24).absentAt = none ∧ t.code 24 = .level 34 ∧
        (t.jack 24).update = some ⟨3, .level 34, none⟩ ∧
        t.link.notices = [.jackChange 24 .present 3 8 (.level 34)])) := by
  decide +kernel

/-! ## Lighting -/

/-- Cue 5 of Example 9-1. -/
def cue5 : Cue := ⟨2, [⟨0x1C, 180, 1000, 2000⟩, ⟨0x04, 60, 500, 500⟩]⟩

/-- The running part with cue 5 defined and the lamp supply in a state. -/
def lit (supply : SupplyState) : State :=
  { running with
    cues := running.cues.write 5 (some cue5), lamps := { running.lamps with supply := supply } }

theorem witness_ZoneRequestsSetTargets :
    LinkFree running ∧ (3 : Nat) < 4 ∧ (255 : Nat) < 256 ∧ (7 : Nat) < 8 ∧ (1 : Nat) < 2 ∧
    (3 : Nat) ≤ 3 ∧ (0x81 : ZoneMask) ≠ 0 ∧ (lit .on).lamps.supply = .on ∧
    (0x81 : ZoneMask).getLsbD 7 = true ∧ (0x81 : ZoneMask).getLsbD 6 = false :=
  ⟨⟨by decide +kernel, rfl, rfl⟩, by decide +kernel⟩

/-- TOGGLE of dark zones gives them their on-level, 200 at reset; with the supply OFF the supply settles
for 150 ms (R149, R154). -/
theorem test_zones_toggle :
    gives (.zones 1 3 0x81 0 500) running (fun t =>
      decide ((t.zone 7).base = 200 ∧ (t.zone 7).target = 200 ∧ (t.zone 6).base = 0 ∧
        t.lamps.supply = .settling ∧ t.lamps.settle = some 150 ∧
        State.lastAnswer t = some (.ack (.bases [200, 0, 0, 0, 0, 0, 0, 200])))) ∧
    gives (.zoneSet 1 7 255 1) running (fun t =>
      decide ((t.zone 7).onLevel = 255 ∧ (t.zone 7).nightOnly = true)) := by
  decide +kernel

theorem witness_CuesAreDefinedAndRun :
    LinkFree (lit .on) ∧ (31 : Nat) < 32 ∧ State.reset.op.state ≠ .run ∧ (lit .on).op.state = .run ∧
    (lit .on).cues.read 6 = none ∧ (lit .on).cues.read 5 = some cue5 ∧
    cue5.steps.head? = some ⟨0x1C, 180, 1000, 2000⟩ ∧ (1 : Nat) < 2 ∧
    (1 : Nat) = (if CuePlayer.scene = .stop then 0 else 1) ∧ (lit .on).lamps.running .scene = none :=
  ⟨⟨by decide +kernel, rfl, rfl⟩, by decide +kernel⟩

/-- Example 9-1 at 0 ms: SCENE takes step 1 of cue 5, with 3,000 ms on the step timer. A cue that runs is
refused its redefinition with IN_USE (R150). -/
theorem test_example_9_1_start :
    gives (.runCue 1 5) (lit .off) (fun t =>
      decide (t.lamps.sceneRun = some ⟨5, 1, 1, 3000⟩ ∧ (t.zone 2).owner = some .scene ∧
        (t.zone 3).target = 180 ∧ (t.zone 4).fadeTime = 1000 ∧ (t.zone 5).owner = none ∧
        t.lamps.supply = .settling)) ∧
    gives (.defineCue 1 5 1 [⟨1, 2, 3, 4⟩]) { lit .on with lamps := { (lit .on).lamps with
        sceneRun := some ⟨5, 1, 1, 3000⟩ } }
      (fun t => decide (t.cues.read 5 = some cue5 ∧ State.lastAnswer t = some (.refuse .inUse))) := by
  decide +kernel

/-- The lit part with cue 5 running on SCENE at a step of a pass. -/
def stepping (step pass : Nat) : State :=
  { lit .on with lamps := { (lit .on).lamps with sceneRun := some ⟨5, step, pass, 0⟩ } }

theorem witness_CuePlayersStep :
    (lit .on).lamps.running .scene = none ∧
    (stepping 1 1).lamps.running .scene = some ⟨5, 1, 1, 0⟩ ∧
    (stepping 1 1).cues.read 5 = some cue5 ∧ 1 ≤ 1 ∧ 1 ≤ cue5.steps.length ∧
    cue5.steps[1]? = some ⟨0x04, 60, 500, 500⟩ ∧ 2 = cue5.steps.length ∧ 1 < cue5.passes ∧
    cue5.passes ≠ 0 ∧ cue5.passes ≤ 2 := by
  decide +kernel

/-- Example 9-1 at 3,000, 4,000 and 8,000 ms: the next step, the next pass and the end. -/
theorem test_example_9_1_steps :
    gives (.stepTimerExpiry .scene) (stepping 1 1) (fun t =>
      decide (t.lamps.sceneRun = some ⟨5, 2, 1, 1000⟩ ∧ (t.zone 2).target = 60)) ∧
    gives (.stepTimerExpiry .scene) (stepping 2 1) (fun t =>
      decide (t.lamps.sceneRun = some ⟨5, 1, 2, 3000⟩)) ∧
    gives (.stepTimerExpiry .scene) (stepping 2 2) (fun t => decide (t.lamps.sceneRun = none)) := by
  decide +kernel

/-- The lit part with zone 2 fading. -/
def fading (start target time elapsed : Nat) : State :=
  let s := lit .on
  { s with zones := s.zones.write 2 { ZoneRec.reset with
      base := target, target := target, fadeStart := start, fadeTime := time, elapsed := elapsed,
      output := start } }

theorem witness_LampSupplyFollowsItsEvents :
    LinkFree running ∧ (lit .off).lamps.supply ≠ .on ∧ (lit .on).lamps.supply = .on ∧
    (lit .on).lamps.settle = none ∧ (lit .settling).lamps.supply = .settling ∧
    { running.lamps with settle := some 0 }.settle.isSome = true ∧
    { running.lamps with off := some 0 }.off.isSome = true ∧
    (∀ z, ((lit .on).zone z).target = 0 ∧ ((lit .on).zone z).output = 0) ∧
    (∃ z, ((fading 0 180 1000 0).zone z).target ≠ 0) ∧ (lit .faulted).lamps.supply = .faulted ∧
    { running.lamps with faultLine := true }.faultLine = true ∧ running.lamps.faultLine = false ∧
    (∃ z, 0 < ((fading 0 180 1000 0).zone z).target) ∧ 0 < running.setup.lampSettle :=
  ⟨⟨by decide +kernel, rfl, rfl⟩, by decide +kernel⟩

/-- Example 9-1 at 550 and 3,200 ms: 180 × 400 / 1,000 = 72, and 180 + (60 − 180) × 200 / 500 = 132. -/
theorem test_example_9_1_fades :
    gives .fadeClockTick (fading 0 180 1000 399) (fun t => decide ((t.zone 2).output = 72)) ∧
    gives .fadeClockTick (fading 180 60 500 199) (fun t => decide ((t.zone 2).output = 132)) ∧
    gives .fadeClockTick (lit .on) (fun t => decide (t.lamps.off = some 10000)) := by
  decide +kernel

/-- The LAMP_FAULT line darkens the zones with its notice, and the fault is not cleared while it is active
(R155). -/
theorem test_lamp_fault :
    gives .lampFaultActiveEdge (fading 60 180 500 0) (fun t =>
      decide (t.lamps.supply = .faulted ∧ (t.zone 2).output = 0 ∧ t.link.notices = [.lampFault])) ∧
    gives (.lightsClearFault 1) { lit .faulted with lamps := { (lit .faulted).lamps with
        faultLine := true } }
      (fun t => decide (t.lamps.supply = .faulted ∧ State.lastAnswer t = some (.refuse .state))) := by
  decide +kernel

/-- The lit part by day with a run count. -/
def dusk (run : Nat) : State :=
  { running with lamps := { running.lamps with run := run } }

theorem witness_AmbientReadingsChangeTheDay :
    ((dusk 8).lamps.day = .day ∧ 199 < (dusk 8).setup.dark) ∧ ¬(200 < (dusk 8).setup.dark) ∧
      (dusk 8).lamps.run ≤ 8 ∧ 9 ≤ (dusk 9).lamps.run := by
  decide +kernel

/-- Example 9-2: the reading 240 breaks the run, and the tenth dark reading changes the day state. -/
theorem test_example_9_2 :
    gives (.ambientSample 240) (dusk 6) (fun t => decide (t.lamps.run = 0 ∧ t.lamps.day = .day)) ∧
    gives (.ambientSample 160) (dusk 9) (fun t =>
      decide (t.lamps.day = .night ∧ t.lamps.run = 0 ∧ t.link.notices = [.daylight .night])) := by
  decide +kernel

/-! ## Operating states, setup and resets -/

/-- The running part with the ignition off for 30 s. -/
def parked : State :=
  { playing 0 with op := { running.op with ign := false, ignOff := some 0 } }

theorem witness_OperatingStateFollowsItsEvents :
    LinkFree running ∧ (2 : Nat) < 3 ∧ running.op.state = .run ∧ State.reset.op.state = .layover ∧
    ((0 : Nat), running.op.state) ∈ [(0, OpState.run), (1, .layover), (2, .dormant)] ∧
    { State.reset.op with state := .dormant }.state = .dormant ∧ running.op.ignOff = none ∧
    parked.op.ignOff.isSome = true ∧ running.op.inactivity = none ∧
    State.reset.op.inactivity.isSome = true :=
  ⟨⟨by decide +kernel, rfl, rfl⟩, by decide +kernel⟩

/-- Example 10-1: the IGN-off timer's expiry ends the run, the inactivity timer's makes the part DORMANT,
and SET_STATE RUN turns AMP_EN on with 250 ms to settle. -/
theorem test_example_10_1 :
    gives .ignFallingEdge running (fun t => decide (t.op.ignOff = some 30000)) ∧
    gives .ignOffTimerExpiry parked (fun t =>
      decide (t.op.state = .layover ∧ t.op.ampEn = false ∧ t.op.inactivity = some 1800000 ∧
        t.link.notices = [.opState .layover .ign, .segmentMissed 701 1 .layover .active])) ∧
    gives .inactivityTimerExpiry State.reset (fun t =>
      decide (t.op.state = .dormant ∧ t.link.notices = [.opState .dormant .inactivity])) ∧
    gives (.setState 1 0) State.reset (fun t =>
      decide (t.op.state = .run ∧ t.op.ampEn = true ∧ t.op.settle = some 250 ∧
        t.link.notices = [.opState .run .setState])) := by
  decide +kernel

/-- A hard reset samples the lines: an active LAMP_FAULT makes the supply FAULTED with its notice
(R165). -/
theorem test_hard_reset :
    gives (.hardReset true false true) (playing 0) (fun t =>
      decide (t.clips = [] ∧ t.voice.mic = true ∧ t.op.state = .layover ∧
        t.lamps.supply = .faulted ∧ t.link.notices = [.lampFault] ∧ (t.prog 0).enabled = true ∧
        (t.prog 1).enabled = false)) := by
  decide +kernel

/-- A list with a wrong third pair, one with an item twice, and single pairs at the ends of ranges. -/
theorem witness_SetupAppliesWhole :
    LinkFree running ∧ SetupInRange running.setup ∧
    (∀ e ∈ running.clips, e.2.first + e.2.count ≤ running.setup.storeBlocks) ∧
    ([((1 : Nat), (2000 : Int)), (2, 30)].map Prod.fst).Nodup ∧
    (2 : Nat) ∈ [((1 : Nat), (2000 : Int)), (2, 30)].map Prod.fst ∧
    (277 < 65536 ∧ ∃ e ∈ running.clips, 277 < e.2.first + e.2.count) ∧
    (200 < 1024 ∧ running.setup.light ≤ 320) ∧
    (16 : Nat) ∈ [1, 2, 4, 6, 7, 9, 10, 12, 13, 14, 15, 16] :=
  ⟨⟨by decide +kernel, rfl, rfl⟩, by unfold SetupInRange; decide +kernel, by decide +kernel⟩

/-- A list is applied whole or not at all (R166); Example 2-1: STORE_BLOCKS below a clip's end is refused
with RANGE naming item 3. -/
theorem test_setup :
    gives (.setup 1 [(2, 30), (12, 0)]) running (fun t =>
      decide (t.setup.staleTime = 30 ∧ t.setup.stepDefault = 0)) ∧
    gives (.setup 1 [(2, 30), (12, 16)]) running (fun t =>
      decide (t.setup = running.setup ∧ State.lastAnswer t = some (.refuseItem 12))) ∧
    gives (.setup 1 [(3, 278)]) running (fun t =>
      decide (t.setup.storeBlocks = 20000 ∧ State.lastAnswer t = some (.refuseItem 3))) := by
  decide +kernel

/-! ## What every step keeps -/

/-- The reset state meets each invariant, and a step is made at it. -/
theorem witness_invariants :
    LinkBounded State.reset ∧ LampsSafe State.reset ∧ LanguagesEnabled State.reset ∧
    CodesCurrent State.reset ∧ SetupInRange State.reset.setup ∧ RouteInRange State.reset.route ∧
    OpUnitInStep State.reset.op ∧ ClipsFit State.reset ∧ ∃ t, step State.reset = .next t := by
  refine ⟨?_, ?_, ?_, ?_, ?_, ?_, ?_, ?_, ⟨_, rfl⟩⟩
  · unfold LinkBounded; decide +kernel
  · unfold LampsSafe; decide +kernel
  · unfold LanguagesEnabled; decide +kernel
  · unfold CodesCurrent; decide +kernel
  · unfold SetupInRange; decide +kernel
  · refine ⟨by decide, by decide, by decide, by decide, by decide, ?_⟩
    intro n h
    cases h
  · unfold OpUnitInStep; decide +kernel
  · refine ⟨rfl, ?_⟩
    intro n c h
    cases h

/-- A gain code computed from a PRESENT jack: J24 of Example 8-2 after the second reply, code 30 on P1. -/
theorem witness_CodesStayCurrent :
    CodesCurrent State.reset ∧ State.reset.setup.ceiling ≤ 0 ∧
    ({ boarding with jacks := running.jacks.write 24 { JackRec.reset with
        state := .present, language := 1, volume := 8 } }).gainCode 24 = .level 30 :=
  ⟨by unfold CodesCurrent; decide +kernel, by decide +kernel, by decide +kernel⟩


/-! ## Longer examples, one step each -/

/-- A stop of Example 6-2. -/
def stopOf (announce arrival : Nat) (requestOnly : Bool) : Stop :=
  { id := 0, announce := announce, arrival := arrival, requestOnly := requestOnly, chime := some 2,
    clips := [], cue := none, latch := false, state := .pending, skip := none }

/-- Example 6-2: one advance from 2,990,000 to 3,200,000 mm across four stops. -/
theorem test_example_6_2 :
    let s := tracking 2990000 2990000 0 0
    let load := fun (i : StopIx) (x : Stop) (s : State) => { s with stops := s.stops.write i (some x) }
    let s := load 10 (stopOf 30000 30300 false) (load 11 (stopOf 30800 31000 true) s)
    let s := load 12 (stopOf 31500 31800 false) (load 13 (stopOf 32600 33000 false) s)
    gives (.position 1 32000 0 0) s (fun t =>
      decide ((t.stop 10).map Stop.state = some .skipped ∧ (t.stop 10).bind Stop.skip = some .late ∧
        (t.stop 11).map Stop.state = some .passed ∧ (t.stop 12).map Stop.state = some .announcing ∧
        (t.stop 13).map Stop.state = some .pending ∧ t.ann.stop = some 12 ∧
        t.link.notices.length = 3)) := by
  decide +kernel

/-- Example 1-5: with 6,380 ms to the stop announced at 13,000 dm, the short clip is chosen from idle; a
segment whose both clips are longer is missed with NO_FIT; on a STALE route the main clip is chosen. -/
theorem test_example_1_5 :
    let s := tracking 1236200 1236200 1000 0
    let s := { s with
      stops := s.stops.write 0 (some (stopOf 13000 13100 false)),
      clips := [(1, ⟨.speech, 0, 400, []⟩), (2, ⟨.speech, 400, 300, []⟩),
        (3, ⟨.speech, 700, 320, []⟩)] }
    let q := { form 701 0 with main := 1, short := some 2, flags := 1 }
    gives (.queueSegment 1 q) s (fun t => decide ((t.chan 1).clip = some 2)) ∧
    gives (.queueSegment 1 { q with short := some 3 }) s (fun t =>
      decide ((t.prog 1).player = .idle ∧
        t.link.notices = [.segmentMissed 701 1 .noFit .eligible])) ∧
    gives (.queueSegment 1 q) { s with route := { s.route with state := .stale } } (fun t =>
      decide ((t.chan 1).clip = some 1)) := by
  decide +kernel

/-- Segment 1001 of Example 5-1, suspended at a time with resume offset 80 (clip 4's second mark). -/
def suspended (since : Nat) : Segment :=
  { seg 1001 0 with
    state := .suspended, chosen := some .main, resume := 80, since := some since, cueRun := true }

/-- P1 LIVE on the guide with segment 1001 below and 1002 ELIGIBLE at the queue head, 18 s in. -/
def guiding (since : Nat) : State :=
  let s := guided 2
  { s with
    now := 18000,
    progs := s.progs.write 1 { s.prog 1 with
      stack := [.segment (suspended since)], queue := [{ seg 1002 0 with state := .eligible }] } }

/-- Example 5-1 at 18 s: GUIDE_OFF pops 1001 at its resume offset and stages 1002; Example 3-2: one
suspended longer than RESUME_LIMIT, 20 s, is missed as STALE, and 1002 starts from idle. -/
theorem test_examples_5_1_3_2_pop :
    gives (.guideOff 1 2) (guiding 0) (fun t =>
      decide ((t.prog 1).player = .priming ∧ (t.prog 1).stack = [] ∧
        (t.prog 1).staged.map (fun g => g.seg.id) = some 1002 ∧ (t.chan 1).next = 80 ∧
        State.lastAnswer t = some (.ack (.guideOff 2 0)) ∧
        t.link.notices = [.segmentStarted 1001 1 .main 80 true])) ∧
    gives (.guideOff 1 2) { guiding 0 with now := 21000 } (fun t =>
      decide ((t.prog 1).player = .priming ∧ (t.prog 1).stack = [] ∧ (t.prog 1).queue = [] ∧
        t.link.notices = [.segmentMissed 1001 1 .stale .suspended,
          .segmentStarted 1002 1 .main 0 false])) := by
  decide +kernel

/-- Example 3-3: a programme disabled with a suspended and two queued segments, one of them a member of
group 12. -/
theorem test_example_3_3 :
    let s := grouped { group12 with enrolled := 2 }
    let s := { s with progs := s.progs.write 1 { s.prog 1 with
      player := .live, active := some .driver, stack := [.segment (suspended 0)],
      queue := [{ seg 821 0 with state := .eligible }, { member901 with state := .queued }],
      priming := none } }
    gives (.programmeSet 1 1 0 0 0 1) s (fun t =>
      decide ((t.prog 1).enabled = false ∧ (t.prog 1).player = .idle ∧ (t.prog 1).stack = [] ∧
        (t.prog 1).queue = [] ∧
        (t.group 0).map (fun g => (g.declared, g.enrolled)) = some (1, 0) ∧
        t.link.notices = [.segmentMissed 1001 1 .disabled .suspended,
          .segmentMissed 821 1 .disabled .eligible, .segmentMissed 901 1 .disabled .queued])) := by
  decide +kernel

/-- Example 4-1 at its end: the second block of the last member makes the group ALL_READY, and both members
start together. -/
theorem test_example_4_1_release :
    let s := grouped armed12
    let s := { s with
      chans := s.chans.write 1 { Channel.reset with
        state := .run, counter := 7, current := some 7, clip := some 4, next := 1, remaining := 149,
        fifo := [⟨7, 0, silentBlock⟩], inFlight := some ⟨7, 4, 1, 129⟩ },
      store := { s.store with monitor := some 5 },
      groups := s.groups.write 0 (some { armed12 with
        declared := 2, enrolled := 2, ready := 0, timer := some 2800 }) }
    gives (.readCompletion .inFlight silentBlock) s (fun t =>
      decide ((t.prog 1).player = .playing ∧
        (t.group 0).map (fun g => (g.state, g.ready, g.started, g.timer)) =
          some (.released, 2, 2, none) ∧
        t.link.notices = [.segmentStarted 901 1 .main 0 false,
          .groupReleased 12 .allReady 2 2 0])) := by
  decide +kernel

/-! ## Advances, coincidences, staging and announcements -/

/-- The places of a state agree where nothing is staged, the store is READY and each part does. -/
theorem places_of {s : State} (hs : s.store.state = .ready) (hn : ∀ p, (s.prog p).staged = none)
    (ho : ∀ p, ((s.prog p).stack.map Entry.level).Pairwise (· > ·) ∧
      ∀ e ∈ (s.prog p).stack, e.level < (s.prog p).level)
    (hp : ∀ p, ((s.prog p).player = .idle ↔ (s.prog p).active = none) ∧
      ((s.prog p).priming.isSome = true → (s.prog p).player = .idle) ∧
      (∀ g ∈ (s.prog p).queue, g.state = .waiting → g.group ≠ none) ∧
      ((s.prog p).enabled = false → (s.prog p).active = none ∧ (s.prog p).stack = [] ∧
        (s.prog p).queue = [] ∧ (s.prog p).priming = none)) : PlacesOrdered s := by
  intro p
  refine ⟨ho p, (hp p).1, ?_, (hp p).2.1, (hp p).2.2.1, ?_, ?_⟩
  · intro g h
    rw [hn p] at h
    cases h
  · intro h
    obtain ⟨a, b, c, d⟩ := (hp p).2.2.2 h
    exact ⟨a, hn p, b, c, d⟩
  · intro h
    rw [hs] at h
    cases h

/-- Stop 8 one millimetre before its announce point; P1 under the driver's PA with a segment that becomes
ELIGIBLE there and one that is cancelled there; group 12 about to arm, and group 13, ARMED with some ms to
run, about to be cancelled. -/
def advancing (left : Nat) : State :=
  let s := withStop8 stop8 1999999
  { s with
    progs := s.progs.write 1 { s.prog 1 with
      player := .live, active := some .driver,
      queue := [seg 701 20000, { seg 702 0 with cancel := some 20000 }] },
    groups := (s.groups.write 0 (some { group12 with trigger := 20000 })).write 1
      (some { group12 with id := 13, state := .armed, timer := some left, cancel := some 20000 }),
    route := { s.route with stale := some 0 } }

/-- A POSITION and a period that advance the odometer, at boundary values of every clause. -/
theorem witness_AdvanceRead :
    LinkFree (advancing 1) ∧ PlacesOrdered (advancing 1) ∧ (advancing 1).route.odo < 100 * 20000 ∧
    ((advancing 1).prog 1).player ≠ .idle ∧ ((advancing 1).prog 1).staged = none ∧
    (((advancing 1).prog 1).queue.map Segment.id).Nodup ∧
    (∀ g ∈ ((advancing 1).prog 1).queue, g.group = none) ∧
    ((advancing 0).group 1).map (fun g => (g.state, g.timer)) = some (.armed, some 0) ∧
    ((advancing 1).group 1).map (fun g => (g.state, g.timer)) = some (.armed, some 1) ∧
    ((advancing 1).group 0).map Group.state = some .forming ∧
    (advancing 1).stop 8 = some stop8 ∧ 100 * stop8.announce ≤ 100 * 20000 ∧
    100 * stop8.arrival + 1000 * (advancing 1).setup.passMargin = 2070000 ∧
    (1999999 : Nat) < max 1999999 (min 100000000 ((tracking 1999999 1999999 5 0).route.est + 5 / 5)) :=
  ⟨⟨by decide +kernel, rfl, rfl⟩,
    places_of rfl (by decide +kernel) (by decide +kernel) (by decide +kernel), by decide +kernel⟩

/-- The advance is read: 702 leaves as PASSED, 701 is ELIGIBLE (R47), group 12 arms and group 13 ends
(R66), stop 8 is DUE and is announced (R101, R105); the stale timer's expiry that was due is overtaken
(R8). -/
theorem test_advance_is_read :
    gives (.position 1 20000 0 0) (advancing 1) (fun t =>
      decide ((t.prog 1).queue.map (fun g => (g.id, g.state)) = [(701, .eligible)] ∧
        (t.group 0).map (fun g => (g.state, g.timer)) = some (.armed, some 4000) ∧
        t.group 1 = none ∧ (t.stop 8).map Stop.state = some .announcing ∧
        t.link.notices.take 2 = [.segmentMissed 702 1 .passed .queued, .groupEnded 13 .passed] ∧
        t.overtaken = [.stale])) := by
  decide +kernel

/-- An expiry of the stale timer that a report overtook does not happen (R8). -/
theorem test_overtaken_expiry :
    gives .staleTimerExpiry { tracking 0 0 0 0 with overtaken := [.stale] } (fun t =>
      decide (t.route.state = .tracking ∧ t.link.notices = [] ∧ t.overtaken = [])) ∧
    gives .gapTimerExpiry { received [] running with
        link := { running.link with receiver := .inFrame [] 0, gap := some 3472 },
        overtaken := [.gap] }
      (fun t => decide (t.link.receiver = .inFrame [] 0 ∧ t.link.gapErrors = 0)) ∧
    gives .inactivityTimerExpiry { State.reset with overtaken := [.inactivity] } (fun t =>
      decide (t.op.state = .layover)) := by
  decide +kernel

/-- For the clauses about a timer that is due when a byte or a start byte comes. -/
theorem witness_overtaken :
    (Reloaded.gap ∉ running.overtaken ∧ Reloaded.stale ∈ { running with overtaken := [.stale] }.overtaken) ∧
    (advancing 1).route.stale = some 0 ∧ { State.reset.op with inactivity := some 0 }.inactivity = some 0 ∧
    { running.link with receiver := .inFrame [] 0, gap := some 0 }.gap = some 0 := by
  decide +kernel

/-- The hold timer's expiry at an odometer that has reached the cancel: the member that is not ready is
removed as PASSED (R72 step 3, R70). -/
theorem test_release_past_the_cancel :
    let s := grouped { armed12 with ready := 0 }
    gives (.holdTimerExpiry 0) { s with route := { s.route with odo := 3080000 } } (fun t =>
      decide ((t.prog 1).queue = [] ∧ (t.prog 1).active = none ∧
        t.link.notices = [.segmentMissed 901 1 .passed .waiting,
          .groupReleased 12 .holdExpiry 3 0 2])) := by
  decide +kernel

/-- A queue, a staged slot and a stack for a route reset, in RUN, with stops behind, at and ahead of the
start. -/
theorem witness_RouteResetClearsTheRun_places :
    (advancing 1).op.state = .run ∧ (advancing 1).route.state ≠ .unset ∧
    seg 701 20000 ∈ ((advancing 1).prog 1).queue ∧
    .segment (suspended 0) ∈ ((guiding 0).prog 1).stack ∧
    (stop8.arrival ≤ 20400 ∧ 20399 < stop8.arrival ∧ stop8.announce ≤ 20000 ∧ 19999 < stop8.announce) ∧
    stop8.requestOnly = false := by
  decide +kernel

/-- A route reset in RUN removes the suspended and the queued segment, each with its notice (R59). -/
theorem test_route_reset_empties :
    gives (.routeReset 1 0) (guiding 0) (fun t =>
      decide ((t.prog 1).stack = [] ∧ (t.prog 1).queue = [] ∧ (t.prog 1).active = some .guide ∧
        t.link.notices = [.segmentMissed 1001 1 .routeReset .suspended,
          .segmentMissed 1002 1 .routeReset .eligible])) := by
  decide +kernel

/-- Group 12 with P1's member one block short of ready, the block in flight. -/
def landing (declared : ProgMask) : State :=
  let s := grouped armed12
  { s with
    chans := s.chans.write 1 { Channel.reset with
      state := .run, counter := 7, current := some 7, clip := some 4, next := 1, remaining := 149,
      fifo := [⟨7, 0, silentBlock⟩], inFlight := some ⟨7, 4, 1, 129⟩ },
    groups := s.groups.write 0 (some { armed12 with
      declared := declared, enrolled := 2, ready := 0, timer := some 2800 }) }

theorem witness_ReadsLandOnTheirChannel_primed :
    ((landing 2).chan 1).inFlight = some ⟨7, 4, 1, 129⟩ ∧
    (∀ d, d ≠ 1 → ((landing 2).chan d).inFlight = none) ∧
    ((landing 2).prog 1).queue = member901 :: [] ∧ ((landing 2).prog 1).priming = some 7 ∧
    member901.group = some 12 ∧ ((landing 2).group 0).map Group.id = some 12 ∧
    (∀ l, ∀ y ∈ (landing 2).group l, y.id = 12 → l = 0) ∧
    ((landing 2).prog 1).player = .idle ∧ ((landing 2).group 0).map Group.state = some .armed ∧
    min 2 ((landing 2).clipBlocks 4) ≤ ([⟨7, 0, silentBlock⟩, ⟨7, 1, silentBlock⟩].filter
      fun b : FifoBlock => decide (b.tag = 7)).length ∧
    (0 : ProgMask) ||| BitVec.twoPow 12 1 = 2 ∧ (0 : ProgMask) ||| BitVec.twoPow 12 1 ≠ 3 := by
  decide +kernel

/-- The needed block of a member that is not the last sets its ready bit alone (R69). -/
theorem test_ready_bit :
    gives (.readCompletion .inFlight silentBlock) (landing 3) (fun t =>
      decide ((t.group 0).map (fun g => (g.state, g.ready)) = some (.armed, 2) ∧
        (t.prog 1).player = .idle ∧ t.link.notices = [])) := by
  decide +kernel

/-- A fit test with a stop ahead, from idle and behind an active segment. -/
theorem witness_QueuedSegmentsWaitOrStart_fit :
    LinkFree (withStop8 stop8 0) ∧ ({ form 703 0 with flags := 1 }).inRange = true ∧
    (∀ r, ∀ g ∈ ((playing 3).prog r).segments, g.id ≠ 703) ∧
    (tracking 0 0 1000 0).route.state = .tracking ∧ (tracking 0 0 1000 0).route.speed ≠ 0 ∧
    (withStop8 stop8 0).stop 8 = some stop8 ∧ stop8.state = .pending ∧
    (withStop8 stop8 1999999).route.odo < 100 * stop8.announce ∧
    (∀ k, k < 8 → ∀ y ∈ (withStop8 stop8 0).stop k, y.state = .pending →
      100 * y.announce ≤ (withStop8 stop8 0).route.odo) ∧
    ((playing 3).prog 1).active = some (active 3) ∧ ((playing 3).prog 1).player = .playing ∧
    ((playing 3).prog 1).staged = none ∧ ((playing 3).prog 1).queue = [] ∧
    (form 703 0).cue = none ∧ 100 * 0 ≤ (playing 3).route.odo :=
  ⟨⟨by decide +kernel, rfl, rfl⟩, by decide +kernel⟩

/-- A segment whose trigger is reached is staged behind the active one, under the next tag (R54, R27). -/
theorem test_staging :
    gives (.queueSegment 1 (form 703 0)) (playing 3) (fun t =>
      decide ((t.prog 1).staged.map (fun g => (g.seg.id, g.seg.state, g.tag)) =
          some (703, .staged, 6) ∧
        (t.chan 1).staged = some ⟨4, 0, 6⟩ ∧ (t.prog 1).queue = [] ∧
        State.lastAnswer t = some (.ack (.queued (some .staged) none)))) := by
  decide +kernel

/-- P1 at the last block of its stop item of stop 8, with more programmes outstanding or none. -/
def speaking (outstanding : ProgMask) : State :=
  let s := withStop8 { stop8 with state := .announcing } 2000000
  { s with
    progs := s.progs.write 1 { s.prog 1 with
      player := .playing, active := some (.stop ⟨8, none, some 5, .language, 0⟩ 9 none 0) },
    chans := s.chans.write 1 { Channel.reset with
      state := .run, counter := 9, current := some 9, clip := some 5, next := 1,
      fifo := [⟨9, 0, silentBlock⟩] },
    ann := ⟨some 8, 3, outstanding, 0, 0⟩ }

theorem witness_PlayersPlayTheirBlocks_end :
    ((speaking 2).ann.stop = some 8 ∧ (speaking 2).ann.outstanding ≠ 0) ∧
    (speaking 2).clipBlocks 5 = 0 + 1 ∧ ((speaking 2).chan 1).fifo = ⟨9, 0, silentBlock⟩ :: [] ∧
    ((speaking 2).prog 1).staged = none ∧ ((speaking 2).prog 1).stack = [] ∧
    ((speaking 2).prog 1).queue = [] ∧
    (2 : ProgMask) &&& ~~~ BitVec.twoPow 12 1 = 0 ∧ (3 : ProgMask) &&& ~~~ BitVec.twoPow 12 1 ≠ 0 ∧
    (∀ k, ∀ y ∈ (speaking 2).stop k, y.state ≠ .due) := by
  decide +kernel

/-- The last outstanding stop item ends the announcement: ANNOUNCED, with the masks in STOP_STATE (R108,
R113). -/
theorem test_announcement_ends :
    gives (.playerBlockPeriod 1) (speaking 2) (fun t =>
      decide ((t.stop 8).map Stop.state = some .announced ∧ t.ann.stop = none ∧
        t.link.notices = [.stopState ⟨8, 42, .announced, none, false, .ended, some 3, some 2, some 0⟩])) ∧
    gives (.playerBlockPeriod 1) (speaking 3) (fun t =>
      decide (t.ann = ⟨some 8, 3, 1, 2, 0⟩ ∧ t.link.notices = [])) := by
  decide +kernel

/-- Every place of every programme agrees while P1 is LIVE above a suspended segment. -/
theorem witness_PreemptionKeepsTheStackOrder_step :
    PlacesOrdered (guiding 0) ∧ (guiding 0).pending = [] ∧ PlacesOrdered State.reset :=
  ⟨places_of rfl (by decide +kernel) (by decide +kernel) (by decide +kernel), rfl,
    places_of rfl (by decide +kernel) (by decide +kernel) (by decide +kernel)⟩

/-- P1 on the driver's PA above one entry, 18 s in. -/
def covering (e : Entry) : State :=
  { running with
    now := 18000, voice := { running.voice with pa := .on, ptt := some 1 },
    progs := running.progs.write 1 { Programme.reset true with
      player := .live, active := some .driver, stack := [e] } }

/-- An entry of each kind, and each of its checks. -/
theorem witness_DriverPaFollowsThePttLine_resume :
    (covering .guide).voice.pa = .on ∧ ((covering .guide).prog 1).active = some .driver ∧
    (∀ q, q ≠ 1 → ((covering .guide).prog q).active ≠ some .driver) ∧
    ((covering .guide).prog 1).stack = [.guide] ∧ ((covering .guide).prog 1).staged = none ∧
    ((covering .guide).prog 1).queue = [] ∧ (covering .guide).ann.stop = none ∧
    (covering .guide).store.state = .ready ∧ (suspended 0).group = none ∧
    (∃ c ∈ ({ suspended 0 with cancel := some 0 }).cancel, 100 * c ≤ (covering .guide).route.odo) ∧
    (covering .guide).setup.resumeLimit = 20 ∧ 1000 * 17 < (covering .guide).now - 0 ∧
    ¬(1000 * 20 < (covering .guide).now - 0) ∧ (suspended 0).cueRun = true ∧
    (covering .guide).stop 8 = none ∧ 0 < (covering .guide).clipBlocks 5 := by
  decide +kernel

/-- The end of the driver's PA resumes the segment below at its offset (R91, R57). -/
theorem test_release_resumes :
    gives .pttInactiveEdge (covering (.segment (suspended 0))) (fun t =>
      decide ((t.prog 1).player = .priming ∧ (t.prog 1).stack = [] ∧ (t.chan 1).next = 80 ∧
        t.link.notices = [.segmentStarted 1001 1 .main 80 true])) ∧
    gives .pttInactiveEdge (covering .guide) (fun t =>
      decide ((t.prog 1).player = .idle ∧ (t.prog 1).stack = [])) := by
  decide +kernel

/-- A start with programmes that join and one without. -/
theorem witness_StopRequestsSetTheLatch_start :
    (withStop8 asked8 2000000).ann.stop = none ∧ (withStop8 asked8 2000000).store.state = .ready ∧
    (∀ k, ∀ y ∈ (withStop8 asked8 2000000).stop k, y.state ≠ .due) ∧
    100 * asked8.announce = (withStop8 asked8 2000000).route.odo ∧
    ((withStop8 asked8 2000000).prog 0).enabled = true ∧ asked8.chime ≠ none ∧
    ((withStop8 asked8 2000000).prog 0).level ≠ 2 ∧ Item.driver.level ≠ 2 ∧
    ({ asked8 with chime := none, clips := [] }).clips = [] := by
  decide +kernel

/-- A stop without clips is announced by nobody: ANNOUNCED at once, with empty masks (R107, R108). -/
theorem test_announcement_of_nobody :
    gives .stopReqActiveEdge (withStop8 { asked8 with chime := none, clips := [] } 2000000) (fun t =>
      decide ((t.stop 8).map Stop.state = some .announced ∧ t.ann.stop = none ∧
        t.link.notices =
          [.stopState ⟨8, 42, .announced, none, true, .ended, some 0, some 0, some 0⟩])) := by
  decide +kernel

/-- A RESTART with a stop at arrival 0 and one with announce point 0. -/
theorem witness_RestartIsMade_stops :
    (stopOf 0 0 false).arrival = 0 ∧ (stopOf 0 1 false).arrival ≠ 0 ∧
    (stopOf 0 1 false).announce = 0 ∧ (stopOf 0 1 false).requestOnly = false ∧
    (stopOf 0 1 true).requestOnly = true := by
  decide +kernel

/-- After a RESTART the first is PASSED and the second DUE, without a notice (R14, R111, R175). -/
theorem test_restart_stops :
    gives .frameSendEnd { running with
        stops := (running.stops.write 0 (some (stopOf 0 0 false))).write 1 (some (stopOf 0 1 false)),
        link := { running.link with
          tx := some (.reply ⟨0x06, 1, .ack (.stateBefore .run), .restart⟩), restarting := true } }
      (fun t => decide ((t.stop 0).map Stop.state = some .passed ∧
        (t.stop 1).map Stop.state = some .due ∧ t.link.notices = [])) := by
  decide +kernel

/-- The frames of an ACK without result fields and of notices with and without fields (R168, R178, R179,
12.2): bytes summed to 0 with the check byte. -/
theorem test_frame_bytes :
    (TxFrame.reply ⟨0x11, 7, .ack .empty, .nothing⟩).bytes = [0x5A, 1, 0x11, 7, 0, 0xE7] ∧
    (TxFrame.reply ⟨0x3B, 7, .refuse .unknownId, .nothing⟩).bytes = [0x5A, 1, 0x3B, 7, 7, 0xB6] ∧
    (TxFrame.notice .paStuck true).bytes = [0x5A, 1, 0x8A, 0, 1, 0x74] ∧
    (TxFrame.notice (.guideLost 0x802) false).bytes = [0x5A, 3, 0x89, 0, 0, 2, 8, 0x6A] := by
  decide +kernel

/-- A declared node undeclared, with a poll of it outstanding. -/
theorem witness_NodeSetDeclaresItsJacks_undeclare :
    LinkFree (looping (some .a) [pollA]) ∧ ((looping (some .a) [pollA]).node 2).declared = true ∧
    (0 : Nat) = false.toNat ∧ pollA.node = 2 ∧ ((looping none []).node 4).declared = false :=
  ⟨⟨by decide +kernel, rfl, rfl⟩, by decide +kernel⟩

/-- Undeclaring keeps the deck, forgets the jacks and detaches the poll (R131, R132). -/
theorem test_undeclare_node :
    gives (.nodeSet 1 2 0 0) (looping (some .a) [pollA]) (fun t =>
      decide (t.node 2 = ⟨false, .upper, .offline, 0⟩ ∧ (t.jack 9).update = none ∧
        (t.jack 9).state = .unknown ∧ t.loop.polls.map Poll.detached = [true] ∧
        State.lastAnswer t = some (.ack (.node .offline)))) := by
  decide +kernel

/-- A reply that confirms, whose sense is read twice and whose button is pressed; and one from an OFFLINE
node. -/
theorem witness_PollsEndByReplyOrTimeout_senses :
    (parseReply [6, 1, 1, 0, 0xF8]).map (fun r => (r.node, r.senses.length, r.events.length)) =
      some (6, 4, 1) ∧
    (boarding.loop.polls.map Poll.node = [6] ∧ (boarding.node 6).declared = true) ∧
    (boarding.jack 24).sense = some .headset ∧ nodeOf 24 = 6 ∧ (24 : Jack).val % 4 = 0 ∧
    ((looping (some .a) [pollA]).jack 9).update.map Update.carriedBy = some (some .a) ∧
    (NodeRec.mk true .upper .offline 3).state = .offline := by
  decide +kernel

/-- The debounce keeps a jack's state at a first reading; a second one of SHORT is FAULT and MUTE (R141). -/
theorem test_debounce :
    gives (.seatReply [6, 2, 0, 0xF8]) boarding (fun t =>
      decide ((t.jack 24).state = .absent ∧ (t.jack 24).sense = some .short ∧ t.link.notices = [])) ∧
    gives (.seatReply [6, 2, 0, 0xF8]) { boarding with jacks := boarding.jacks.write 24 {
        boarding.jack 24 with sense := some .short } }
      (fun t => decide ((t.jack 24).state = .fault ∧ t.code 24 = .mute)) := by
  decide +kernel

/-- The supply in each state the lighting requests find. -/
theorem witness_ZoneRequestsSetTargets_supply :
    (lit .settling).lamps.supply = .settling ∧ (lit .faulted).lamps.supply = .faulted ∧
    (lit .off).lamps.supply = .off ∧ 0 < running.setup.lampSettle ∧
    { running.setup with lampSettle := 0 }.lampSettle = 0 := by
  decide +kernel

/-- A list of two pairs of items that act at once; one whose clips do not fit; one that crosses the
thresholds. -/
theorem witness_SetupAppliesWhole_lists :
    (([((5 : Nat), (0 : Int)), (8, 12)]).map Prod.fst).Nodup ∧ ((0 : Int) ≤ 0 ∧ (12 : Int) ≤ 60) ∧
    (∀ e ∈ running.clips, e.2.first + e.2.count ≤ 279) ∧
    ¬(∀ e ∈ running.clips, e.2.first + e.2.count ≤ 278) ∧ running.setup.light ≤ 320 ∧
    running.setup.dark < running.setup.light ∧ running.setup.passMargin ≠ 0 ∧
    running.setup.duckDepth ≠ 12 ∧ running.setup.ceiling ≠ -60 ∧ running.setup.courtesyLevel ≠ 0 := by
  decide +kernel

/-- A changed PASS_MARGIN passes a stop whose pass point O has reached (R96), and a changed DUCK_DEPTH
limits the duck values (R120). -/
theorem test_setup_acts :
    gives (.setup 1 [(5, 0), (8, 12)]) { withStop8 stop8 2040000 with
        mixer := { running.mixer with upperDuck := 24, lowerDuck := 6 } }
      (fun t => decide (t.stop 8 = some { stop8 with state := .skipped, skip := some .late } ∧
        t.mixer.upperDuck = 12 ∧ t.mixer.lowerDuck = 6 ∧
        State.lastAnswer t = some (.ack (.applied 2)))) := by
  decide +kernel

/-- A form and a state for each test of LOAD_STOP, each reached by the ones before it, and a start. -/
theorem witness_LoadStopWritesTheRecord_tests :
    LinkFree running ∧ ¬(({ loads8 with pairs := [(0, 1), (0, 4)] }.pairs.map Prod.fst).Nodup) ∧
    (¬∀ c ∈ ({ loads8 with pairs := [(0, 1024)] } : StopForm).pairs, c.2 ≤ 1023) ∧
    (withStop8 stop8 0).stop 8 = some stop8 ∧ ¬(stop8.arrival < loads8.arrival) ∧
    running.clip 99 = none ∧ (running.clip 1).map Clip.kind ≠ some .chime ∧
    (tracking 2000000 2000000 0 0).route.odo = 100 * loads8.announce ∧
    ¬((withStop8 stop8 2000000).route.odo < 100 * stop8.announce) ∧
    100 * loads8.arrival + 1000 * running.setup.passMargin = (tracking 2070000 2070000 0 0).route.odo ∧
    running.ann.stop = none ∧ running.op.state = .run ∧ running.store.state = .ready ∧
    (∀ k, running.stop k = none) ∧ loads8.flags = 0 ∧ ((running.prog 0).enabled = true) ∧
    loads8.chime ≠ none ∧ (running.prog 0).level ≠ 2 :=
  ⟨⟨by decide +kernel, rfl, rfl⟩, by decide +kernel⟩

/-- The refusals of R97 in their order, and a stop loaded at its announce point, announced at once
(R98). -/
theorem test_load_stop_tests :
    (∀ x ∈ [({ loads8 with pairs := [(0, 1), (0, 4)] }, RefuseCode.range),
        ({ loads8 with pairs := [(0, 1024)] }, .range), ({ loads8 with index := 9 }, .order),
        ({ loads8 with chime := some 99 }, .unknownId), ({ loads8 with chime := some 1 }, .range)],
      gives (.loadStop 1 x.1) (withStop8 stop8 0) (fun t =>
        decide (State.lastAnswer t = some (.refuse x.2)))) ∧
    gives (.loadStop 1 loads8) (withStop8 stop8 2000000) (fun t =>
      decide (State.lastAnswer t = some (.refuse .state))) ∧
    gives (.loadStop 1 loads8) (tracking 2070000 2070000 0 0) (fun t =>
      decide (State.lastAnswer t = some (.refuse .passed))) ∧
    gives (.loadStop 1 loads8) (tracking 2000000 2000000 0 0) (fun t =>
      decide (State.lastAnswer t = some (.ack (.loaded .new .announcing)) ∧ t.ann.stop = some 8)) := by
  decide +kernel

/-- The laid-out bytes of a stop's pair, of a setup value and of an absent clip number (R178, 12.3). -/
theorem test_field_bytes :
    fieldBytes (fun _ => []) (pairFields (3, 0x0102)) = [3, 0x02, 0x01] ∧
    fieldBytes (fun _ => []) [.setup (-12)] = [0xF4, 0xFF, 0xFF, 0xFF] ∧
    fieldBytes (fun _ => []) (Notice.bedState .off none (some .store)).fields = [0xFF, 0xFF] := by
  decide +kernel

end Sys2Proof.Tests
end

section
/-! PROOFS. The requests of the clip directory at a free link (2.1, R21). -/

namespace Sys2Proof.Machine

/-! ## Requests at the link -/

/-- A request at a free link is taken at once (R171). -/
theorem viaLink_of_linkFree {s : State} (free : LinkFree s) (request : Instr) (taken : State) :
    viaLink request taken s = taken := by
  obtain ⟨room, running, noRequest⟩ := free
  simp [viaLink, Link.mayHand, room, running, noRequest]

theorem refuse_eq_refused (kind tag : Byte) (code : RefuseCode) (s : State) :
    refuse kind tag code s = s.refused kind tag code := rfl

theorem ack_eq_acked (kind tag : Byte) (data : Ack) (s : State) :
    ack kind tag data s = s.acked kind tag data := rfl

/-! ## Tests in their order -/

theorem firstFail_nil : firstFail [] = none := rfl

theorem firstFail_cons_pass (code : RefuseCode) (rest : List (Bool × RefuseCode)) :
    firstFail ((true, code) :: rest) = firstFail rest := rfl

theorem firstFail_cons_fail (code : RefuseCode) (rest : List (Bool × RefuseCode)) :
    firstFail ((false, code) :: rest) = some code := rfl

theorem isClip_eq_false {clip : Nat} (h : 1023 < clip) : isClip clip = false := by
  simp [isClip, h]

theorem isClip_eq_true {clip : Nat} (h : ¬1023 < clip) : isClip clip = true := by
  simpa [isClip] using h

/-! ## DELETE_CLIP and GET_CLIP -/

/-- DELETE_CLIP refuses a number out of range, then an undefined one, then one in use, and otherwise
removes the record (R21). -/
theorem takeDeleteClip_eq (tag : Byte) (clip : Nat) (s : State) :
    takeDeleteClip tag clip s =
      if 1023 < clip then s.refused 0x19 tag .range
      else if s.clip clip = none then s.refused 0x19 tag .unknownId
      else if 0 < s.uses clip then s.refused 0x19 tag .inUse
      else { s with clips := s.clips.erase clip }.acked 0x19 tag .empty := by
  unfold takeDeleteClip
  by_cases outOfRange : 1023 < clip
  · rw [isClip_eq_false outOfRange, firstFail_cons_fail, if_pos outOfRange]; rfl
  rw [isClip_eq_true outOfRange, firstFail_cons_pass, if_neg outOfRange]
  cases defined : s.clip clip with
  | none => simp [firstFail_cons_fail, refuse_eq_refused]
  | some c =>
    rw [Option.isSome_some, firstFail_cons_pass, if_neg (Option.some_ne_none c)]
    by_cases used : 0 < s.uses clip
    · simp [used, Nat.ne_of_gt used, firstFail_cons_fail, refuse_eq_refused]
    · simp [Nat.eq_zero_of_not_pos used, firstFail_cons_pass, firstFail_nil, ack_eq_acked]

/-- GET_CLIP refuses a number out of range, then an undefined one, and otherwise reports the record
with its in-use count (R21). -/
theorem takeGetClip_eq (tag : Byte) (clip : Nat) (s : State) :
    takeGetClip tag clip s =
      if 1023 < clip then s.refused 0x1A tag .range
      else match s.clip clip with
        | none => s.refused 0x1A tag .unknownId
        | some c => s.acked 0x1A tag (.clip clip c (s.uses clip)) := by
  unfold takeGetClip
  by_cases outOfRange : 1023 < clip
  · rw [isClip_eq_false outOfRange, if_pos outOfRange]; rfl
  · rw [isClip_eq_true outOfRange, if_neg outOfRange]
    cases s.clip clip <;> rfl

theorem exec_deleteClip_of_linkFree {s : State} (free : LinkFree s) (tag : Byte) (clip : Nat) :
    exec (.deleteClip tag clip) s = .next (takeDeleteClip tag clip s) :=
  congrArg Host.Outcome.next (viaLink_of_linkFree free _ _)

theorem exec_getClip_of_linkFree {s : State} (free : LinkFree s) (tag : Byte) (clip : Nat) :
    exec (.getClip tag clip) s = .next (takeGetClip tag clip s) :=
  congrArg Host.Outcome.next (viaLink_of_linkFree free _ _)

/-- Where a directory has lost a number's record, the number reads as undefined and every other number
reads as before. -/
theorem clip_of_clips_erase {s t : State} {clip : Nat} (h : t.clips = s.clips.erase clip) :
    t.clip clip = none ∧ ∀ n, n ≠ clip → t.clip n = s.clip n := by
  unfold State.clip
  rw [h]
  exact ⟨Directory.find_erase_same _ _, fun _ other => Directory.find_erase_other _ other⟩

/-- Settles O20: at a free link each request is its own take, whose tests stand in the order of R21,
and a record erased reads as undefined while the others stay. -/
theorem clipsAreDeletedAndRead : Obligations.ClipsAreDeletedAndRead := by
  intro tag clip s free
  refine ⟨?deleted, fun _ erased => clip_of_clips_erase erased, ?reported⟩
  case deleted =>
    exact (exec_deleteClip_of_linkFree free tag clip).trans
      (congrArg Host.Outcome.next (takeDeleteClip_eq tag clip s))
  case reported =>
    exact (exec_getClip_of_linkFree free tag clip).trans
      (congrArg Host.Outcome.next (takeGetClip_eq tag clip s))

end Sys2Proof.Machine
end

section
/-! PROOFS. CLEAR_STOPS at a free link, and the clip references that go with the stop table (6.1, R22,
R99). -/

namespace Sys2Proof.Machine

/-! ## The stop table -/

theorem stops_toList_eq_map_stop (s : State) : s.stops.toList = allStops.map s.stop := rfl

theorem stop_eq_none_of_stops_eq_fill {s : State} (empty : s.stops = .fill 64 none) (i : StopIx) :
    s.stop i = none := by
  rw [State.stop, empty, Table.read_fill]

/-- The number of loaded slots, counted over the slots' indexes. -/
theorem countP_isSome_stops (s : State) :
    (s.stops.toList.countP fun x => x.isSome) =
      (allStops.filter fun i => decide (s.stop i ≠ none)).length := by
  have loaded : ((fun x : Option Stop => x.isSome) ∘ s.stop) =
      fun i => decide (s.stop i ≠ none) := by
    funext i
    cases h : s.stop i <;> simp [h]
  rw [stops_toList_eq_map_stop, List.countP_map, loaded, List.countP_eq_length_filter]

/-! ## References of stop records (R22) -/

theorem Stop.refs_eq_filter_length (x : Stop) (n : Nat) :
    x.refs n = (if x.chime = some n then 1 else 0) +
      (x.clips.filter fun c => decide (c.2 = n)).length := by
  rw [Stop.refs, List.countP_eq_length_filter]

/-- The references to a clip that the stop table's slots hold together. -/
def State.stopUses (s : State) (n : Nat) : Nat :=
  (allStops.map fun i => ((s.stop i).map fun x => x.refs n).getD 0).sum

/-- Between states that differ in nothing but the stop table, among what holds references, the in-use
counts differ by the stop records' references. -/
theorem uses_add_stopUses {s t : State} (progs : t.progs = s.progs) (mixer : t.mixer = s.mixer)
    (n : Nat) : s.uses n + t.stopUses n = t.uses n + s.stopUses n := by
  have slots : ∀ u : State,
      (u.stops.toList.map fun x => (x.map fun r => r.refs n).getD 0).sum = u.stopUses n := fun u => by
    rw [stops_toList_eq_map_stop, List.map_map]
    rfl
  simp only [State.uses, slots, progs, mixer]
  omega

theorem stopUses_of_empty {s : State} (empty : ∀ i, s.stop i = none) (n : Nat) :
    s.stopUses n = 0 := by
  simp [State.stopUses, empty]

/-! ## CLEAR_STOPS -/

/-- CLEAR_STOPS during an announcement is refused, and otherwise it empties the table and answers with
the number of records removed (R99). -/
theorem takeClearStops_eq (tag : Byte) (s : State) :
    takeClearStops tag s =
      if s.ann.stop = none then
        { s with stops := .fill 64 none }.acked 0x39 tag
          (.cleared (allStops.filter fun i => decide (s.stop i ≠ none)).length)
      else s.refused 0x39 tag .state := by
  unfold takeClearStops
  cases s.ann.stop with
  | none => rw [countP_isSome_stops]; rfl
  | some i => rfl

theorem exec_clearStops_of_linkFree {s : State} (free : LinkFree s) (tag : Byte) :
    exec (.clearStops tag) s = .next (takeClearStops tag s) :=
  congrArg Host.Outcome.next (viaLink_of_linkFree free _ _)

/-- Settles O36: at a free link the request is its own take; the emptied table holds no reference, so
each in-use count falls by what the stop records held. -/
theorem clearStopsEmptiesTheTable : Obligations.ClearStopsEmptiesTheTable := by
  intro tag s free
  rw [exec_clearStops_of_linkFree free tag, takeClearStops_eq]
  refine ⟨fun announcing => by rw [if_neg announcing], fun idle => ?cleared⟩
  case cleared =>
    rw [if_pos idle]
    refine ⟨_, rfl, rfl, ?empty, ?released⟩
    case empty => exact stop_eq_none_of_stops_eq_fill rfl
    case released =>
      intro n
      have balance := uses_add_stopUses (s := s) (t := { s with stops := .fill 64 none }) rfl rfl n
      rw [stopUses_of_empty (stop_eq_none_of_stops_eq_fill rfl), Nat.add_zero] at balance
      refine balance.trans (congrArg (_ + List.sum ·) (List.map_congr_left fun i _ => ?slot))
      case slot =>
        cases s.stop i with
        | none => rfl
        | some x => exact x.refs_eq_filter_length n

end Sys2Proof.Machine
end

section
/-! The multipliers of levels and the scaling of a sample by one: each entry of `linTable` is the rounded
power of ten that R116 asks for, and a sample scaled by a multiplier stays a sample. -/

namespace Sys2Proof.Machine

/-! ## The multiplier of a level -/

theorem lin_of_lt {x : Int} (below : x < -180) : lin x = 0 :=
  if_pos below

theorem lin_of_ge {x : Int} (inRange : -180 ≤ x) : lin x = (linTable.getD (-x).toNat 0 : Nat) :=
  if_neg (Int.not_lt.mpr inRange)

theorem lin_neg {k : Nat} (le : k ≤ 180) : lin (-(k : Int)) = (linTable.getD k 0 : Nat) := by
  rw [lin_of_ge (by omega), Int.neg_neg, Int.toNat_natCast]

/-- n is 32,768 × 10^(−k/40) rounded to the nearest integer, both sides of the rounding taken to the 40th
power (R116). -/
def RoundsPower (n k : Nat) : Prop :=
  1 ≤ n ∧ (2 * n - 1) ^ 40 * 10 ^ k ≤ 65536 ^ 40 ∧ 65536 ^ 40 < (2 * n + 1) ^ 40 * 10 ^ k

/-- The table is given by its 181 numbers, so its entries are checked one by one. The entry of 0 is the
limit 32,767 and no rounded power. -/
theorem linTable_roundsPower : ∀ k < 181, 1 ≤ k → RoundsPower (linTable.getD k 0) k := by
  unfold RoundsPower
  decide +kernel

theorem linTable_le_limit : ∀ n ∈ linTable, n ≤ 32767 := by decide +kernel

/-- Every level's multiplier lies within 0 and the limit of R116, an entry past the table's end being 0. -/
theorem lin_bounds (x : Int) : 0 ≤ lin x ∧ lin x ≤ 32767 := by
  by_cases below : x < -180
  case pos => simp [lin_of_lt below]
  case neg =>
    have entry : linTable.getD (-x).toNat 0 ≤ 32767 := by
      by_cases inside : (-x).toNat < linTable.length
      · rw [List.getD_eq_getElem _ _ inside]
        exact linTable_le_limit _ (List.getElem_mem inside)
      · rw [List.getD_eq_default _ _ (Nat.not_lt.mp inside)]
        exact Nat.zero_le _
    rw [lin_of_ge (Int.not_lt.mp below)]
    omega

/-! ## Scaling -/

/-- A multiplier up to the limit is less than 1 in units of 1/32,768, so scaling leads no value out of the
range of a sample, its rounding included. -/
theorem scale_bounds {a m : Int} (lower : -32768 ≤ a) (upper : a ≤ 32767) (nonneg : 0 ≤ m)
    (limit : m ≤ 32767) : -32768 ≤ scale a m ∧ scale a m ≤ 32767 := by
  have least : -32768 * m ≤ a * m := Int.mul_le_mul_of_nonneg_right lower nonneg
  have greatest : a * m ≤ 32767 * m := Int.mul_le_mul_of_nonneg_right upper nonneg
  unfold scale
  omega

theorem scale_sample_lin_bounds (a : Sample) (x : Int) :
    -32768 ≤ scale a.toInt (lin x) ∧ scale a.toInt (lin x) ≤ 32767 := by
  obtain ⟨nonneg, limit⟩ := lin_bounds x
  have lower : -32768 ≤ a.toInt := BitVec.le_toInt a
  have upper : a.toInt < 32768 := BitVec.toInt_lt
  exact scale_bounds lower (Int.le_of_lt_add_one upper) nonneg limit

/-- Settles O42: the table's entries are the rounded powers, and the bounds of sample and multiplier bound
the rounded product. -/
theorem linIsTheRoundedPower : Obligations.LinIsTheRoundedPower := by
  refine ⟨rfl, ?rounded, fun _ below => lin_of_lt below, fun a x => ⟨rfl, ?within⟩⟩
  case rounded =>
    intro k pos le
    exact ⟨_, lin_neg le, linTable_roundsPower k (Nat.lt_succ_of_le le) pos⟩
  case within => exact scale_sample_lin_bounds a x

end Sys2Proof.Machine
end

section
/-! PROOFS. A jack's record and gain code written together, and what JACK_SET and GET_JACK do with them at
a free link (R128, R136, R144). -/

namespace Sys2Proof.Machine

/-! ## Tables and indexes -/

theorem write_read_self {n : Nat} {α : Type} (t : Table n α) (i : Fin n) : t.write i (t.read i) = t := by
  refine Table.ext_read _ _ fun k => ?_
  rw [Table.read_write]
  split
  next same => rw [same]
  next => rfl

theorem write_write_same {n : Nat} {α : Type} (t : Table n α) (i : Fin n) (x y : α) :
    (t.write i x).write i y = t.write i y := by
  refine Table.ext_read _ _ fun k => ?_
  simp only [Table.read_write]
  split <;> rfl

@[simp] theorem indexOf_val {k : Nat} (i : Fin k) : indexOf k i.val = some i := dif_pos i.isLt

theorem eq_val_of_indexOf {k n : Nat} {i : Fin k} (h : indexOf k n = some i) : n = i.val := by
  unfold indexOf at h
  split at h
  next => exact congrArg Fin.val (Option.some.inj h)
  next => cases h

theorem indexOf_of_le {k n : Nat} (le : k ≤ n) : indexOf k n = none := dif_neg (Nat.not_lt.mpr le)

/-! ## A jack's record and gain code -/

/-- The state with a jack's record and its gain code replaced. -/
def State.setJackCode (s : State) (j : Jack) (x : JackRec) (c : GainCode) : State :=
  { s with
    jacks := s.jacks.write j x
    mixer := { s.mixer with codes := s.mixer.codes.write j c } }

/-- A node that its jacks' updates go to (R136). -/
abbrev State.NodeOnline (s : State) (n : Node) : Prop :=
  (s.node n).declared = true ∧ (s.node n).state = .online

/-- A jack record with a pending update of its language and a code, where one is given. -/
def JackRec.updatedIf (x : JackRec) (given : Prop) [Decidable given] (c : GainCode) : JackRec :=
  { x with update := if given then some ⟨x.language, c, none⟩ else x.update }

theorem updatedIf_pos {given : Prop} [Decidable given] (h : given) (x : JackRec) (c : GainCode) :
    x.updatedIf given c = { x with update := some ⟨x.language, c, none⟩ } := by
  rw [JackRec.updatedIf, if_pos h]

theorem updatedIf_neg {given : Prop} [Decidable given] (h : ¬given) (x : JackRec) (c : GainCode) :
    x.updatedIf given c = x := by
  rw [JackRec.updatedIf, if_neg h]

section
variable (s : State) (j : Jack) (x : JackRec) (c : GainCode)

@[simp] theorem setJackCode_jack_same : (s.setJackCode j x c).jack j = x :=
  Table.read_write_same _ _ _

@[simp] theorem setJackCode_code_same : (s.setJackCode j x c).code j = c :=
  Table.read_write_same _ _ _

@[simp] theorem setJackCode_nodeUp (n : Node) : (s.setJackCode j x c).nodeUp n = s.nodeUp n := rfl

theorem nodeUp_iff (n : Node) : s.nodeUp n = true ↔ s.NodeOnline n := by
  simp [State.nodeUp, State.NodeOnline]

theorem setJack_code (k : Jack) : (s.setJack j x).code k = s.code k := rfl

theorem setJackCode_setJack (y : JackRec) :
    (s.setJackCode j x c).setJack j y = s.setJackCode j y c := by
  simp only [State.setJackCode, State.setJack, write_write_same]

theorem setJack_eq_setJackCode : s.setJack j x = s.setJackCode j x (s.code j) := by
  simp only [State.setJackCode, State.setJack, State.code, write_read_self]

/-- A jack's gain code reads neither the code held for it nor its pending update (R127). -/
theorem gainCode_setJackCode_updatedIf (given : Prop) [Decidable given] (d : GainCode) :
    (s.setJackCode j (x.updatedIf given d) c).gainCode j = (s.setJack j x).gainCode j := by
  simp only [State.gainCode, State.jackGain, setJackCode_jack_same, setJack_jack_same]
  rfl

/-! ## Updates and the level unit -/

/-- An update goes to a jack of a declared ONLINE node alone (R136). -/
theorem giveUpdate_setJackCode :
    giveUpdate j (s.setJackCode j x c) =
      s.setJackCode j (x.updatedIf (s.NodeOnline (nodeOf j)) c) c := by
  unfold giveUpdate
  simp only [setJackCode_nodeUp, nodeUp_iff]
  split
  next up =>
    rw [updatedIf_pos up, setJackCode_setJack, setJackCode_jack_same, setJackCode_code_same]
  next down => rw [updatedIf_neg down]

/-- A record written and its code computed again: the new code is current, and one that differs gives an
update (R128). -/
theorem recompute_setJack :
    recompute j (s.setJack j x) =
      s.setJackCode j
        (x.updatedIf (s.NodeOnline (nodeOf j) ∧ (s.setJack j x).gainCode j ≠ s.code j)
          ((s.setJack j x).gainCode j))
        ((s.setJack j x).gainCode j) := by
  rw [recompute, setJack_code]
  split
  next same =>
    rw [updatedIf_neg (fun given => given.2 same), same, setJack_eq_setJackCode]
  next differs =>
    simp only [ne_eq, differs, not_false_eq_true, and_true]
    exact giveUpdate_setJackCode s j x _

/-- A record changed by an event: its code is computed again, and a changed code or language gives the
jack of a declared ONLINE node one update of both (R128, R136). -/
theorem changeJack_eq :
    changeJack j x s =
      s.setJackCode j
        (x.updatedIf (s.NodeOnline (nodeOf j) ∧
            (x.language ≠ (s.jack j).language ∨ (s.setJack j x).gainCode j ≠ s.code j))
          ((s.setJack j x).gainCode j))
        ((s.setJack j x).gainCode j) := by
  unfold changeJack
  rw [recompute_setJack]
  split
  next same => simp only [same, ne_eq, not_true_eq_false, false_or]
  next differs =>
    rw [giveUpdate_setJackCode]
    simp only [ne_eq, differs, not_false_eq_true, true_or, and_true]
    by_cases up : s.NodeOnline (nodeOf j)
    · rw [updatedIf_pos up, updatedIf_pos up]
      rfl
    · rw [updatedIf_neg up, updatedIf_neg up, updatedIf_neg fun given => up given.1]

end

/-! ## What an ACK leaves unchanged -/

theorem acked_code (s : State) (kind tag : Byte) (data : Ack) (j : Jack) :
    (s.acked kind tag data).code j = s.code j := rfl

theorem acked_gainCode (s : State) (kind tag : Byte) (data : Ack) (j : Jack) :
    (s.acked kind tag data).gainCode j = s.gainCode j := rfl

/-! ## JACK_SET and GET_JACK -/

/-- The record JACK_SET writes: the language, the step and the assigned flag (R144). -/
def JackRec.assignedTo (x : JackRec) (p : Prog) (volume : Nat) : JackRec :=
  { x with language := p, volume := volume, assigned := true }

theorem takeJackSet_of_outOfRange (tag : Byte) {jack prog volume : Nat} {s : State}
    (bad : 63 < jack ∨ 11 < prog ∨ 15 < volume ∨
      ∃ p : Prog, p.val = prog ∧ (s.prog p).enabled = false) :
    takeJackSet tag jack prog volume s = s.refused 0x49 tag .range := by
  unfold takeJackSet
  split
  next j p isJack isProg =>
    obtain rfl := eq_val_of_indexOf isJack
    obtain rfl := eq_val_of_indexOf isProg
    refine if_neg fun good => ?_
    obtain ⟨step, enabled⟩ := good
    rcases bad with jackBad | progBad | stepBad | ⟨q, same, disabled⟩
    · omega
    · omega
    · omega
    · rw [Fin.ext same, enabled] at disabled
      cases disabled
  next => rfl

theorem takeJackSet_of_inRange (tag : Byte) (j : Jack) (p : Prog) {volume : Nat} {s : State}
    (step : volume ≤ 15) (enabled : (s.prog p).enabled = true) :
    let x := (s.jack j).assignedTo p volume
    let g := (s.setJack j x).gainCode j
    takeJackSet tag j.val p.val volume s =
      (s.setJackCode j
        (x.updatedIf (s.NodeOnline (nodeOf j) ∧ (p ≠ (s.jack j).language ∨ g ≠ s.code j)) g) g).acked
          0x49 tag (.jackSet (s.jack j).state g) := by
  intro x g
  unfold takeJackSet
  rw [indexOf_val, indexOf_val]
  refine (if_pos ⟨step, enabled⟩).trans ?_
  rw [← JackRec.assignedTo, changeJack_eq]
  simp only [setJackCode_jack_same, setJackCode_code_same]
  rfl

theorem exec_jackSet_of_linkFree {s : State} (free : LinkFree s) (tag : Byte) (jack prog volume : Nat) :
    exec (.jackSet tag jack prog volume) s = .next (takeJackSet tag jack prog volume s) :=
  congrArg Host.Outcome.next (viaLink_of_linkFree free _ _)

theorem takeGetJack_of_outOfRange (tag : Byte) {jack : Nat} (s : State) (bad : 63 < jack) :
    takeGetJack tag jack s = s.refused 0x4A tag .range := by
  rw [takeGetJack, indexOf_of_le bad]
  rfl

theorem takeGetJack_val (tag : Byte) (j : Jack) (s : State) :
    takeGetJack tag j.val s = s.acked 0x4A tag (.jack
      { jack := j, record := s.jack j, code := s.code j, node := s.node (nodeOf j) }) := by
  rw [takeGetJack, indexOf_val]
  rfl

theorem exec_getJack_of_linkFree {s : State} (free : LinkFree s) (tag : Byte) (jack : Nat) :
    exec (.getJack tag jack) s = .next (takeGetJack tag jack s) :=
  congrArg Host.Outcome.next (viaLink_of_linkFree free _ _)

/-- Settles O44: at a free link each request is its own take; a jack set is one changed record, whose
gain code and update `changeJack_eq` gives. -/
theorem jacksAreSetAndRead : Obligations.JacksAreSetAndRead := by
  intro tag jack prog volume s free
  rw [exec_jackSet_of_linkFree free, exec_getJack_of_linkFree free]
  refine ⟨?refused, ?written, ?unread, ?reported⟩
  case refused => exact fun bad => congrArg _ (takeJackSet_of_outOfRange tag bad)
  case unread => exact fun bad => congrArg _ (takeGetJack_of_outOfRange tag s bad)
  case reported =>
    intro j
    rw [exec_getJack_of_linkFree free, takeGetJack_val]
    rfl
  case written =>
    rintro j p rfl rfl step enabled
    refine ⟨_, congrArg _ (takeJackSet_of_inRange tag j p step enabled), ?current, ?record, ?code, ?ack⟩
    all_goals simp only [acked_code, acked_gainCode, setJackCode_code_same]
    case current => exact (gainCode_setJackCode_updatedIf _ _ _ _ _ _).symm
    case record | code | ack => rfl

end Sys2Proof.Machine
end

section
/-! PROOFS. The read requests at a free link: what each reports, and that each is one reply and nothing
else (R15, R42, R100, R129, R158, R176). -/

namespace Sys2Proof.Machine

/-! ## A request that is answered and does nothing else -/

/-- A request at a free link is its own take (R171). -/
theorem exec_of_linkFree {s taken : State} {request : Instr} (free : LinkFree s)
    (arm : exec request s = .next (viaLink request taken s)) : exec request s = .next taken :=
  arm.trans (congrArg Host.Outcome.next (viaLink_of_linkFree free _ _))

/-- The state after one reply of a kind and tag, with nothing else changed. -/
def AnsweredAlone (s t : State) (kind tag : Byte) : Prop := ∃ a, t = s.answered kind tag a

section
variable (s : State) (kind tag : Byte)

theorem answeredAlone_ack (data : Ack) : AnsweredAlone s (ack kind tag data s) kind tag :=
  ⟨.ack data, rfl⟩

theorem answeredAlone_refuse (code : RefuseCode) : AnsweredAlone s (refuse kind tag code s) kind tag :=
  ⟨.refuse code, rfl⟩

variable {s kind tag}

theorem exec_answers_of_linkFree {taken : State} {request : Instr} (free : LinkFree s)
    (arm : exec request s = .next (viaLink request taken s))
    (answered : AnsweredAlone s taken kind tag) :
    ∃ a, exec request s = .next (s.answered kind tag a) := by
  obtain ⟨a, rfl⟩ := answered
  exact ⟨a, exec_of_linkFree free arm⟩

end

/-! ## The reports as they stand -/

theorem speakersHeld_eq_decide (s : State) :
    s.speakersHeld = decide (s.op.ampEn = false ∨ s.op.settle ≠ none) := by
  rw [State.speakersHeld, Bool.decide_or]
  congr 1
  · cases s.op.ampEn <;> rfl
  · cases s.op.settle <;> rfl

theorem ducks_toList_eq_map_read (s : State) : s.mixer.ducks.toList = allProgs.map s.mixer.ducks.read :=
  rfl

theorem zones_view_eq_map_zone (s : State) :
    s.zones.toList.map ZoneRec.view = allZones.map fun z => (s.zone z).view :=
  List.map_map

/-- A stack entry is reported with its level, its object where it names one, and its resume position
(R42). -/
theorem entryView_eq (e : Entry) :
    e.view =
      match e with
      | .segment g => ⟨0, some g.id, g.resume⟩
      | .guide => ⟨1, none, 0⟩
      | .stop i => ⟨2, some i.stop.val, i.resume⟩ := by
  cases e <;> rfl

/-! ## GET_STOP (R100) -/

theorem takeGetStop_of_outOfRange (tag : Byte) {index : Nat} (s : State) (bad : 63 < index) :
    takeGetStop tag index s = s.refused 0x3B tag .range := by
  rw [takeGetStop, indexOf_of_le bad]
  rfl

theorem takeGetStop_val_of_empty (tag : Byte) {i : StopIx} {s : State} (empty : s.stop i = none) :
    takeGetStop tag i.val s = s.refused 0x3B tag .unknownId := by
  simp only [takeGetStop, indexOf_val, empty]
  rfl

theorem takeGetStop_val_of_loaded (tag : Byte) {i : StopIx} {s : State} {r : Stop}
    (loaded : s.stop i = some r) :
    takeGetStop tag i.val s = s.acked 0x3B tag (.stop (s.stopView i r)) := by
  simp only [takeGetStop, indexOf_val, loaded]
  rfl

theorem takeGetStop_answers (tag : Byte) (index : Nat) (s : State) :
    AnsweredAlone s (takeGetStop tag index s) 0x3B tag := by
  unfold takeGetStop
  split
  next => exact answeredAlone_refuse ..
  next =>
    split
    next => exact answeredAlone_refuse ..
    next => exact answeredAlone_ack ..

/-! ## GET_PROGRAMME (R42) -/

theorem takeGetProgramme_of_outOfRange (tag : Byte) {prog : Nat} (s : State) (bad : 11 < prog) :
    takeGetProgramme tag prog s = s.refused 0x21 tag .range := by
  rw [takeGetProgramme, indexOf_of_le bad]
  rfl

theorem takeGetProgramme_val (tag : Byte) (p : Prog) (s : State) :
    takeGetProgramme tag p.val s = s.acked 0x21 tag (.programme (s.prog p).view) := by
  rw [takeGetProgramme, indexOf_val]
  rfl

theorem takeGetProgramme_answers (tag : Byte) (prog : Nat) (s : State) :
    AnsweredAlone s (takeGetProgramme tag prog s) 0x21 tag := by
  unfold takeGetProgramme
  split
  next => exact answeredAlone_ack ..
  next => exact answeredAlone_refuse ..

/-! ## GET_CLIP, GET_GROUP and GET_JACK (R21, R64, R144) -/

theorem takeGetClip_answers (tag : Byte) (clip : Nat) (s : State) :
    AnsweredAlone s (takeGetClip tag clip s) 0x1A tag := by
  rw [takeGetClip_eq]
  split
  next => exact answeredAlone_refuse ..
  next =>
    split
    next => exact answeredAlone_refuse ..
    next => exact answeredAlone_ack ..

theorem takeGetGroup_answers (tag : Byte) (id : Nat) (s : State) :
    AnsweredAlone s (takeGetGroup tag id s) 0x2A tag := by
  unfold takeGetGroup
  split
  next =>
    split
    next => exact answeredAlone_ack ..
    next => exact answeredAlone_refuse ..
  next => exact answeredAlone_refuse ..

theorem takeGetJack_answers (tag : Byte) (jack : Nat) (s : State) :
    AnsweredAlone s (takeGetJack tag jack s) 0x4A tag := by
  by_cases bad : 63 < jack
  · rw [takeGetJack_of_outOfRange tag s bad]
    exact answeredAlone_refuse ..
  · obtain ⟨j, rfl⟩ : ∃ j : Jack, j.val = jack := ⟨⟨jack, by omega⟩, rfl⟩
    rw [takeGetJack_val]
    exact answeredAlone_ack ..

/-! ## The obligation -/

/-- Settles O7: at a free link each read request is its own take, and each take is one reply that
carries its view of the state. -/
theorem readRequestsReport : Obligations.ReadRequestsReport := by
  intro tag s free
  refine ⟨exec_of_linkFree free rfl, exec_of_linkFree free rfl, exec_of_linkFree free rfl, ?mixer, ?zones,
    ?stopRange, ?stopEmpty, ?stopLoaded, ?programmeRange, ?programme, ?answered⟩
  case mixer =>
    rw [← speakersHeld_eq_decide, ← ducks_toList_eq_map_read]
    exact exec_of_linkFree free rfl
  case zones =>
    rw [exec_of_linkFree free rfl, takeGetZones, State.zonesView, zones_view_eq_map_zone]
    rfl
  case stopRange =>
    intro n bad
    rw [exec_of_linkFree free rfl, takeGetStop_of_outOfRange tag s bad]
  case stopEmpty =>
    intro i empty
    rw [exec_of_linkFree free rfl, takeGetStop_val_of_empty tag empty]
  case stopLoaded =>
    intro i r loaded
    rw [exec_of_linkFree free rfl, takeGetStop_val_of_loaded tag loaded]
    rfl
  case programmeRange =>
    intro n bad
    rw [exec_of_linkFree free rfl, takeGetProgramme_of_outOfRange tag s bad]
  case programme =>
    intro p
    rw [exec_of_linkFree free rfl, takeGetProgramme_val, Programme.view, funext entryView_eq]
    rfl
  case answered =>
    intro n q listed
    simp only [List.mem_cons, List.not_mem_nil, or_false] at listed
    rcases listed with rfl | rfl | rfl | rfl | rfl | rfl | rfl | rfl | rfl
    all_goals refine exec_answers_of_linkFree free rfl ?_
    · exact answeredAlone_ack ..
    · exact takeGetClip_answers ..
    · exact takeGetProgramme_answers ..
    · exact takeGetGroup_answers ..
    · exact takeGetStop_answers ..
    · exact answeredAlone_ack ..
    · exact takeGetJack_answers ..
    · exact answeredAlone_ack ..
    · exact answeredAlone_ack ..

end Sys2Proof.Machine
end
